-- ==== Sys2Proof/Word.lean ====
section
/-! DEFINITION. The word types: what the spec treats as bits or as a counter that wraps.
Everything else in the model is a natural number, an integer or a named type. -/

namespace Sys2Proof

/-- One byte of a station-port line (R153). -/
abbrev Byte := BitVec 8

/-- A two-byte field, a notice mask or a pending set (R162, R163, R167). -/
abbrev Half := BitVec 16

/-- A 32-bit value that wraps: a millisecond value (R1), a pulse count (R18), the round number (R89),
or a four-byte field of a request. -/
abbrev Word := BitVec 32

end Sys2Proof
end

