-- ==== Sys2Proof/Config.lean ====
section
/-! DEFINITION. The fixed sizes and limits of the part, as the spec states them, and the free values:
opaque constants without a body for what the spec leaves open. -/

namespace Sys2Proof.Config

/-- The greatest power, tenths of a kilowatt (00_scope.md, Quantities). -/
def maxPower : Nat := 65535

/-- The greatest energy in Wh, minute number, epoch and receipt number (00_scope.md; R93, R145). -/
def maxWord : Nat := 4294967295

/-- The greatest stored store margin (R8). -/
def maxMargin : Nat := 5000

/-- Receipts the Receipt Queue holds at most (R146). -/
def queueSize : Nat := 64

/-- Receipts from which QUEUE_NEAR_FULL is pending (R151). -/
def nearFull : Nat := 56

/-- Vouchers the Voucher List holds at most (R132). -/
def voucherSize : Nat := 48

/-- Entries of the window history (R40). -/
def historySize : Nat := 8

/-- Entries of the store load history (R70). -/
def loadHistorySize : Nat := 4

/-- Band entries of a session (R121). -/
def bandEntrySize : Nat := 8

/-- Session slots beyond one for each bay (R114). -/
def spareSlots : Nat := 8

/-- Bytes of a frame that the receiver stores (R153). -/
def frameBytes : Nat := 245

/-- The greatest length byte of a frame (R154). -/
def maxPayload : Nat := 240

/-- Filter length of the battery bound lines (R28). -/
def boundFilter : Nat := 8

/-- FREE VALUE (log 12). What a minute number reads as when its exact value lies above the 32-bit range: the
spec says that the minute count does not wrap in service and states no value there. -/
opaque minuteBeyondRange : Nat → Word

/-- FREE VALUE (log 6). The word that stands for a metering channel (given by its place in the order of R23, from 0)
in a notice detail. -/
opaque channelCode : Nat → Word

/-- FREE VALUE (log 6). The word that stands for a window basis in a notice detail: true is CLOCK. -/
opaque basisCode : Bool → Word

/-- FREE VALUE (log 6). The word that stands for FULL (true) or EMPTY (false) in a notice detail. -/
opaque boundCode : Bool → Word

/-- FREE VALUE (log 6). The word that stands for the parts taken (limits, tariff) in LIMITS_TAKEN's detail. -/
opaque partsCode : Bool → Bool → Word

/-- FREE VALUE (log 26). Detail A (true) or B (false) of a READ NOTICE response with code 0, at a millisecond value: the
spec gives that response its code and its count. -/
opaque noneDetail : Bool → Word → Word

/-- FREE VALUE (log 27). The bits that R167 gives no meaning: of PING's byte 6 (0), of a receipt's owed set (1) and of the
first byte of a receipt's band entry (2). -/
opaque spareBits : Nat → Byte

end Sys2Proof.Config
end

