-- ==== Sys2Proof/Syntax.lean ====
section
/-! DEFINITION. The commands of the part: one constructor for each row of spec/opcode_table.json.
A request carries the port it came on, its tag and its payload; an event carries what it happens to. -/

namespace Sys2Proof

/-- The three station ports, named by their masters: N, T and E of 00_scope.md. -/
inductive Port where
  | network
  | till
  | energy
deriving DecidableEq, Repr, Inhabited

/-- The five metering pulse channels (02_metering_inputs.md). -/
inductive Channel where
  | gridIn
  | gridOut
  | canopy
  | battIn
  | battOut
deriving DecidableEq, Repr, Inhabited

/-- The two battery bound lines (R28). -/
inductive BoundLine where
  | bfull
  | bempty
deriving DecidableEq, Repr

/-- A line that is sampled once per millisecond and filtered (R17, R28). -/
inductive SampledLine where
  | channel (c : Channel)
  | bound (b : BoundLine)
deriving DecidableEq, Repr

/-- A request payload whose layout the spec does not give (log 6): its fields, or a payload that does
not have the length the request needs. -/
inductive Body (α : Type) where
  | fields (a : α)
  | misfit
deriving DecidableEq, Repr, Inhabited

/-- The limit fields a SET LIMITS may carry (R8). -/
structure LimitFields where
  importCap : Option Half
  exportCap : Option Half
  demandLimit : Option Half
  storeMargin : Option Half
  socFloor : Option Word
  socCeil : Option Word
  socTarget : Option Word
deriving DecidableEq, Repr, Inhabited

/-- One band of a SET TARIFF (R9). The spec gives the start no width: 16 bits, DESIGN CHOICE (log 31). -/
structure BandFields where
  start : Half
  price : Half
  gridCharge : Bool
  peak : Bool
deriving DecidableEq, Repr, Inhabited

/-- The configuration items, in the order of the table of section 12.2. -/
inductive ConfigItem where
  | bayCount
  | bayMin
  | perBayCap
  | fallbackPower
  | reportLimit
  | abandonLimit
  | ackLimit
  | roundPeriod
  | windowLength
  | agingLimit
  | promotionLength
  | chanEnable (c : Channel)
  | chanEdge (c : Channel)
  | chanFilter (c : Channel)
  | chanWeight (c : Channel)
  | silenceLimit
  | batteryCapacity
  | bchgMax
  | bdisMax
  | canopyRated
  | safeImportCap
  | safeDemand
  | safeMargin
  | safeFloor
  | safeCeil
  | safeTarget
  | presenceLimit (p : Port)
  | minBasket
  | voucherRate
  | voucherCap
  | voucherValidity
  | tillHold
deriving DecidableEq, Repr, Inhabited

/-- One pair of a WRITE CONFIG (R169); the item is none where the pair names no item. The value's width is not in the spec:
32 bits for every item, DESIGN CHOICE (log 28). -/
structure ConfigPair where
  item : Option ConfigItem
  value : Word
deriving DecidableEq, Repr, Inhabited

/-- The selector of a READ SESSION (R128). The spec gives its value no width: 16 bits for a bay and for a session number,
DESIGN CHOICE (log 31). -/
inductive SessionSelector where
  | bay (k : Half)
  | number (n : Half)
  | other
deriving DecidableEq, Repr, Inhabited

/-- The fields of a POST VOUCHER (R133). The spec gives the till number no width: 8 bits, DESIGN CHOICE (log 31). -/
structure PostFields where
  number : Word
  till : Byte
  basket : Word
deriving DecidableEq, Repr, Inhabited

/-- The fields of a CLAIM VOUCHER (R135). The spec gives the bay number no width: 8 bits, DESIGN CHOICE (log 31). -/
structure ClaimFields where
  bay : Byte
  number : Word
deriving DecidableEq, Repr, Inhabited

/-- The commands: requests of the catalogue of section 11.6, events of the lines, of the time base and of the
pins, and the resets. -/
inductive Instr where
  | ping (p : Port) (tag : Byte) (payload : List Byte)
  | readNotice (p : Port) (tag : Byte) (payload : List Byte)
  | setNoticeMask (p : Port) (tag : Byte) (payload : List Byte)
  | writeConfig (p : Port) (tag : Byte) (body : Body (List ConfigPair))
  | readConfig (p : Port) (tag : Byte) (payload : List Byte)
  | commitSite (p : Port) (tag : Byte) (payload : List Byte)
  | enterConfigure (p : Port) (tag : Byte) (payload : List Byte)
  | setLimits (p : Port) (tag : Byte) (body : Body LimitFields)
  | setTariff (p : Port) (tag : Byte) (body : Body (List BandFields))
  | setClock (p : Port) (tag : Byte) (payload : List Byte)
  | readSite (p : Port) (tag : Byte) (payload : List Byte)
  | readWindows (p : Port) (tag : Byte) (payload : List Byte)
  | readChannels (p : Port) (tag : Byte) (payload : List Byte)
  | readSession (p : Port) (tag : Byte) (body : Body SessionSelector)
  | bayReports (p : Port) (tag : Byte) (payload : List Byte)
  | readGrants (p : Port) (tag : Byte) (payload : List Byte)
  | ackGrants (p : Port) (tag : Byte) (payload : List Byte)
  | endSession (p : Port) (tag : Byte) (payload : List Byte)
  | setBayService (p : Port) (tag : Byte) (payload : List Byte)
  | claimVoucher (p : Port) (tag : Byte) (body : Body ClaimFields)
  | readBay (p : Port) (tag : Byte) (payload : List Byte)
  | postVoucher (p : Port) (tag : Byte) (body : Body PostFields)
  | withdrawVoucher (p : Port) (tag : Byte) (body : Body Word)
  | readVoucher (p : Port) (tag : Byte) (body : Body Word)
  | peekReceipt (p : Port) (tag : Byte) (payload : List Byte)
  | takeReceipt (p : Port) (tag : Byte) (body : Body Word)
  | frameDiscard (p : Port)
  | overrun (p : Port)
  | unknownCommand (p : Port) (tag : Byte) (code : Byte)
  | responseEnd (p : Port)
  | monotonicMinuteEvent
  | clockMinuteEvent
  | roundTick
  | staleMark (bay : Nat)
  | periodEnd
  | presenceExpiry (p : Port)
  | silenceExpiry (c : Channel)
  | overdueExpiry (bay : Nat)
  | windowEnd
  | voucherExpiry
  | abandonment
  | tillHoldRelease
  | pulse (c : Channel)
  | inactiveLevelChange (c : Channel) (level : Bool)
  | boundAssertion (b : BoundLine)
  | boundDeassertion (b : BoundLine)
  | powerUpReset
  | pinReset
  | resetRelease (size1 size0 speed : Bool)
  | vbakFailure
  | filterSample (line : SampledLine) (level : Bool)
  | characterReceived (p : Port) (byte : Byte) (stopLow : Bool)
  | receiverGap (p : Port)
deriving DecidableEq, Repr

end Sys2Proof
end

