-- ==== Sys2Proof/WellFormed.lean ====
section
/-! DEFINITION. When a command is well formed: its operands lie within what a frame or the part can carry.
The meanings do not rest on these checks: every command has a meaning, well formed or not. -/

namespace Sys2Proof

/-- A payload fits a frame: its length byte is at most 240 (R154). -/
def payloadFits (payload : List Byte) : Bool :=
  decide (payload.length ≤ Config.maxPayload)

/-- A bay number an event may name: 1 to 32, the greatest bay count (R168). -/
def bayInRange (k : Nat) : Bool :=
  decide (1 ≤ k ∧ k ≤ 32)

/-- A list of pairs or bands fits a frame of at most 240 payload bytes, at one byte or more for each. -/
def listFits {α : Type} : Body (List α) → Bool
  | .fields l => decide (l.length ≤ Config.maxPayload)
  | .misfit => true

/-- The request codes of the catalogue of section 11.6 (R156). -/
def catalogueCodes : List Byte :=
  [0x01, 0x02, 0x03, 0x10, 0x11, 0x12, 0x13, 0x14, 0x15, 0x16, 0x17, 0x18, 0x19, 0x1A,
   0x20, 0x21, 0x22, 0x23, 0x24, 0x25, 0x26, 0x30, 0x31, 0x32, 0x40, 0x41]

/-- A command code the catalogue does not list (R156). -/
def codeUnknown (code : Byte) : Bool :=
  !catalogueCodes.contains code

/-- Well-formedness of a command. -/
def Instr.wf : Instr → Bool
  | .ping _ _ payload => payloadFits payload
  | .readNotice _ _ payload => payloadFits payload
  | .setNoticeMask _ _ payload => payloadFits payload
  | .writeConfig _ _ body => listFits body
  | .readConfig _ _ payload => payloadFits payload
  | .commitSite _ _ payload => payloadFits payload
  | .enterConfigure _ _ payload => payloadFits payload
  | .setLimits _ _ _ => true
  | .setTariff _ _ body => listFits body
  | .setClock _ _ payload => payloadFits payload
  | .readSite _ _ payload => payloadFits payload
  | .readWindows _ _ payload => payloadFits payload
  | .readChannels _ _ payload => payloadFits payload
  | .readSession _ _ _ => true
  | .bayReports _ _ payload => payloadFits payload
  | .readGrants _ _ payload => payloadFits payload
  | .ackGrants _ _ payload => payloadFits payload
  | .endSession _ _ payload => payloadFits payload
  | .setBayService _ _ payload => payloadFits payload
  | .claimVoucher _ _ _ => true
  | .readBay _ _ payload => payloadFits payload
  | .postVoucher _ _ _ => true
  | .withdrawVoucher _ _ _ => true
  | .readVoucher _ _ _ => true
  | .peekReceipt _ _ payload => payloadFits payload
  | .takeReceipt _ _ _ => true
  | .frameDiscard _ => true
  | .overrun _ => true
  | .unknownCommand _ _ code => codeUnknown code
  | .responseEnd _ => true
  | .monotonicMinuteEvent => true
  | .clockMinuteEvent => true
  | .roundTick => true
  | .staleMark k => bayInRange k
  | .periodEnd => true
  | .presenceExpiry _ => true
  | .silenceExpiry _ => true
  | .overdueExpiry k => bayInRange k
  | .windowEnd => true
  | .voucherExpiry => true
  | .abandonment => true
  | .tillHoldRelease => true
  | .pulse _ => true
  | .inactiveLevelChange _ _ => true
  | .boundAssertion _ => true
  | .boundDeassertion _ => true
  | .powerUpReset => true
  | .pinReset => true
  | .resetRelease _ _ _ => true
  | .vbakFailure => true
  | .filterSample _ _ => true
  | .characterReceived _ _ _ => true
  | .receiverGap _ => true

end Sys2Proof
end

