-- ==== Sys2Proof/Decode.lean ====
section
/-! DEFINITION. The request catalogue, the commands that whole frames spell (R154, R156, R167), and the
host's decodeTableWord: no row of the table gives bits, so it answers none. -/

namespace Sys2Proof

/-- The command code of a request, from the catalogue of section 11.6; none for an event. -/
def catalogueCode : Instr → Option Byte
  | .ping _ _ _ => some 0x01
  | .readNotice _ _ _ => some 0x02
  | .setNoticeMask _ _ _ => some 0x03
  | .writeConfig _ _ _ => some 0x10
  | .readConfig _ _ _ => some 0x11
  | .commitSite _ _ _ => some 0x12
  | .enterConfigure _ _ _ => some 0x13
  | .setLimits _ _ _ => some 0x14
  | .setTariff _ _ _ => some 0x15
  | .setClock _ _ _ => some 0x16
  | .readSite _ _ _ => some 0x17
  | .readWindows _ _ _ => some 0x18
  | .readChannels _ _ _ => some 0x19
  | .readSession _ _ _ => some 0x1A
  | .bayReports _ _ _ => some 0x20
  | .readGrants _ _ _ => some 0x21
  | .ackGrants _ _ _ => some 0x22
  | .endSession _ _ _ => some 0x23
  | .setBayService _ _ _ => some 0x24
  | .claimVoucher _ _ _ => some 0x25
  | .readBay _ _ _ => some 0x26
  | .postVoucher _ _ _ => some 0x30
  | .withdrawVoucher _ _ _ => some 0x31
  | .readVoucher _ _ _ => some 0x32
  | .peekReceipt _ _ _ => some 0x40
  | .takeReceipt _ _ _ => some 0x41
  | .frameDiscard _ => none
  | .overrun _ => none
  | .unknownCommand _ _ _ => none
  | .responseEnd _ => none
  | .monotonicMinuteEvent => none
  | .clockMinuteEvent => none
  | .roundTick => none
  | .staleMark _ => none
  | .periodEnd => none
  | .presenceExpiry _ => none
  | .silenceExpiry _ => none
  | .overdueExpiry _ => none
  | .windowEnd => none
  | .voucherExpiry => none
  | .abandonment => none
  | .tillHoldRelease => none
  | .pulse _ => none
  | .inactiveLevelChange _ _ => none
  | .boundAssertion _ => none
  | .boundDeassertion _ => none
  | .powerUpReset => none
  | .pinReset => none
  | .resetRelease _ _ _ => none
  | .vbakFailure => none
  | .filterSample _ _ => none
  | .characterReceived _ _ _ => none
  | .receiverGap _ => none

/-- FREE VALUE (log 6). How a WRITE CONFIG payload spells its pairs: the spec gives no layout. -/
opaque writeConfigFields : List Byte → Body (List ConfigPair)

/-- FREE VALUE (log 6). How a SET LIMITS payload spells its fields. -/
opaque setLimitsFields : List Byte → Body LimitFields

/-- FREE VALUE (log 6). How a SET TARIFF payload spells its bands. -/
opaque setTariffFields : List Byte → Body (List BandFields)

/-- FREE VALUE (log 6). How a READ SESSION payload spells its selector and value. -/
opaque readSessionFields : List Byte → Body SessionSelector

/-- FREE VALUE (log 6). How a CLAIM VOUCHER payload spells its fields. -/
opaque claimFields : List Byte → Body ClaimFields

/-- FREE VALUE (log 6). How a POST VOUCHER payload spells its fields. -/
opaque postFields : List Byte → Body PostFields

/-- FREE VALUE (log 6). How the payload of WITHDRAW VOUCHER, READ VOUCHER and TAKE RECEIPT spells its number. -/
opaque numberField : Byte → List Byte → Body Word

/-- The sum of a list of bytes, modulo 256 (R154). -/
def byteSum (bytes : List Byte) : Byte :=
  bytes.foldl (· + ·) 0

/-- The check byte of the bytes before it: the two's complement of their sum (R154). -/
def checkByte (bytes : List Byte) : Byte :=
  -(byteSum bytes)

/-- BAD_FRAME's test on a frame of at most 245 bytes (R154). -/
def badFrame (bytes : List Byte) : Bool :=
  match bytes with
  | _ :: _ :: len :: _ =>
    decide (bytes.length < 4) || decide (Config.maxPayload < len.toNat) ||
      decide (bytes.length ≠ 4 + len.toNat) || decide (byteSum bytes ≠ 0)
  | _ => true

/-- The command that a frame with this tag, command code and payload spells on a port (R156). -/
def requestOf (p : Port) (tag code : Byte) (payload : List Byte) : Instr :=
  if code = 0x01 then .ping p tag payload
  else if code = 0x02 then .readNotice p tag payload
  else if code = 0x03 then .setNoticeMask p tag payload
  else if code = 0x10 then .writeConfig p tag (writeConfigFields payload)
  else if code = 0x11 then .readConfig p tag payload
  else if code = 0x12 then .commitSite p tag payload
  else if code = 0x13 then .enterConfigure p tag payload
  else if code = 0x14 then .setLimits p tag (setLimitsFields payload)
  else if code = 0x15 then .setTariff p tag (setTariffFields payload)
  else if code = 0x16 then .setClock p tag payload
  else if code = 0x17 then .readSite p tag payload
  else if code = 0x18 then .readWindows p tag payload
  else if code = 0x19 then .readChannels p tag payload
  else if code = 0x1A then .readSession p tag (readSessionFields payload)
  else if code = 0x20 then .bayReports p tag payload
  else if code = 0x21 then .readGrants p tag payload
  else if code = 0x22 then .ackGrants p tag payload
  else if code = 0x23 then .endSession p tag payload
  else if code = 0x24 then .setBayService p tag payload
  else if code = 0x25 then .claimVoucher p tag (claimFields payload)
  else if code = 0x26 then .readBay p tag payload
  else if code = 0x30 then .postVoucher p tag (postFields payload)
  else if code = 0x31 then .withdrawVoucher p tag (numberField code payload)
  else if code = 0x32 then .readVoucher p tag (numberField code payload)
  else if code = 0x40 then .peekReceipt p tag payload
  else if code = 0x41 then .takeReceipt p tag (numberField code payload)
  else .unknownCommand p tag code

/-- The request frame of a tag, a command code and a payload (R167), with its check byte. -/
def requestFrame (tag code : Byte) (payload : List Byte) : List Byte :=
  let body := tag :: code :: BitVec.ofNat 8 payload.length :: payload
  body ++ [checkByte body]

/-- The command that a completed frame of a port is (R154, R156): a discard, or the request it spells.
The sender sends this command at the frame's completion (log 5). -/
def frameCommand (p : Port) (stopLow : Bool) (bytes : List Byte) : Instr :=
  if stopLow || decide (Config.frameBytes < bytes.length) || badFrame bytes then .frameDiscard p
  else
    match bytes with
    | tag :: code :: len :: rest => requestOf p tag code (rest.take len.toNat)
    | _ => .frameDiscard p

/-- The command that a word spells by the table's bits. No row of spec/opcode_table.json gives bits: none. -/
def decodeTableWord (_nbits _w : Nat) : Option Instr :=
  none

end Sys2Proof
end

