-- ==== Sys2Proof/Machine/State.lean ====
section
/-! DEFINITION. Every piece of state the spec gives the part, block by block, as plain data, and the state
right after a power-up reset. INVENTORY.md's '## State' lists each field with its rule. -/

namespace Sys2Proof.Machine

/-- What stops the part. The spec gives it no fault: a request that cannot be taken is answered with a status
code (R156), a bad frame is counted and dropped (R154), and an event whose condition does not hold does not
come about. So there is no constructor: nobody raises a fault. -/
inductive Fault where
deriving DecidableEq, Repr

/-- Why a command has no next state. -/
inductive Refusal where
  /-- Raised by exec's arm of a command that has no meaning yet, with the command's mnemonic. Safe: nothing can be
  proved of a next state that is not there. No arm raises it now. -/
  | notModelled (mnemonic : String)
deriving DecidableEq, Repr

/-- The two states of the site (chapter 12). -/
inductive SiteState where
  | configure
  | run
deriving DecidableEq, Repr

/-- The reset that is being held, until its release (R173). -/
inductive HeldReset where
  | powerUp
  | pin
deriving DecidableEq, Repr

/-- The strap pins as sampled at a release (R168): true is high. -/
structure Straps where
  size1 : Bool
  size0 : Bool
  speed : Bool
deriving DecidableEq, Repr

/-- The bay count N of the SIZE straps (R168). -/
def Straps.bayCount (x : Straps) : Nat :=
  match x.size1, x.size0 with
  | false, false => 8
  | false, true => 16
  | true, false => 24
  | true, true => 32

/-- One value for each of the five metering channels, in the order of R23. -/
structure Five (α : Type) where
  gridIn : α
  gridOut : α
  canopy : α
  battIn : α
  battOut : α
deriving DecidableEq, Repr

/-- The value of one channel. -/
def Five.get {α : Type} (x : Five α) : Channel → α
  | .gridIn => x.gridIn
  | .gridOut => x.gridOut
  | .canopy => x.canopy
  | .battIn => x.battIn
  | .battOut => x.battOut

/-- The five values with one channel's replaced. -/
def Five.set {α : Type} (x : Five α) (c : Channel) (v : α) : Five α :=
  match c with
  | .gridIn => { x with gridIn := v }
  | .gridOut => { x with gridOut := v }
  | .canopy => { x with canopy := v }
  | .battIn => { x with battIn := v }
  | .battOut => { x with battOut := v }

/-- The same value for all five channels. -/
def Five.all {α : Type} (v : α) : Five α :=
  ⟨v, v, v, v, v⟩

/-- A channel's configuration items (section 2.1). -/
structure ChanCfg where
  enabled : Bool
  /-- Active edge: true is falling, the value 1 of R169. -/
  falling : Bool
  filter : Nat
  weight : Nat
deriving DecidableEq, Repr

/-- The site configuration (section 12.2), in the order of its table. -/
structure SiteCfg where
  bayCount : Nat
  bayMin : Nat
  perBayCap : Nat
  fallbackPower : Nat
  reportLimit : Nat
  abandonLimit : Nat
  ackLimit : Nat
  roundPeriod : Nat
  windowLength : Nat
  agingLimit : Nat
  promotionLength : Nat
  chan : Five ChanCfg
  silenceLimit : Nat
  batteryCapacity : Nat
  bchgMax : Nat
  bdisMax : Nat
  canopyRated : Nat
  safeImportCap : Nat
  safeDemand : Nat
  safeMargin : Nat
  safeFloor : Nat
  safeCeil : Nat
  safeTarget : Nat
  presenceN : Nat
  presenceT : Nat
  presenceE : Nat
  minBasket : Nat
  voucherRate : Nat
  voucherCap : Nat
  voucherValidity : Nat
  tillHold : Nat
deriving DecidableEq, Repr

/-- The default configuration of a part with n bays (section 12.2). -/
def SiteCfg.default (n : Nat) : SiteCfg where
  bayCount := n
  bayMin := 14
  perBayCap := 220
  fallbackPower := 42
  reportLimit := 15
  abandonLimit := 120
  ackLimit := 10
  roundPeriod := 2
  windowLength := 900
  agingLimit := 30
  promotionLength := 150
  chan := Five.all { enabled := false, falling := false, filter := 3, weight := 1 }
  silenceLimit := 60
  batteryCapacity := 0
  bchgMax := 0
  bdisMax := 0
  canopyRated := 0
  safeImportCap := 2000
  safeDemand := 0
  safeMargin := 100
  safeFloor := 0
  safeCeil := 4000000
  safeTarget := 0
  presenceN := 10
  presenceT := 120
  presenceE := 30
  minBasket := 1500
  voucherRate := 40
  voucherCap := 5000
  voucherValidity := 180
  tillHold := 240

/-- The limits that the expiries are judged by. A WRITE CONFIG that changes the silence limit or a presence limit is
compared with from the next millisecond (R20, R157), and a changed till hold is judged from the next monotonic minute event
(R150); until then the value before it stands here. -/
structure JudgedLimits where
  silence : Nat
  presenceN : Nat
  presenceT : Nat
  presenceE : Nat
  tillHold : Nat
deriving DecidableEq, Repr

/-- The limits of a configuration, all in force. -/
def SiteCfg.judged (x : SiteCfg) : JudgedLimits :=
  ⟨x.silenceLimit, x.presenceN, x.presenceT, x.presenceE, x.tillHold⟩

/-- The time base (section 1.1). -/
structure TimeBase where
  ms : Word
  monoMin : Nat
  monoPhase : Nat
  minuteOfDay : Nat
  clockPhase : Nat
  clockSet : Bool
  /-- The round schedule: none is stopped (R4). -/
  nextTick : Option Word
  /-- The MODEL's own field (log 2): a round tick taken before the period end that comes with it has already made
  the counter's advance. -/
  advanceMade : Bool
deriving DecidableEq, Repr

/-- One band of a Tariff Table (section 1.2). -/
structure Band where
  start : Nat
  price : Nat
  gridCharge : Bool
  peak : Bool
deriving DecidableEq, Repr

/-- A limit set (section 1.2). -/
structure LimitSet where
  importCap : Nat
  exportCap : Nat
  demandLimit : Nat
  storeMargin : Nat
  socFloor : Nat
  socCeil : Nat
  socTarget : Nat
  tariff : List Band
deriving DecidableEq, Repr

/-- The Pending Set (R5): each part present or absent, and the waiting mark. -/
structure PendingSet where
  importCap : Option Nat
  exportCap : Option Nat
  demandLimit : Option Nat
  storeMargin : Option Nat
  socFloor : Option Nat
  socCeil : Option Nat
  socTarget : Option Nat
  tariff : Option (List Band)
  waiting : Bool
deriving DecidableEq, Repr

/-- The empty Pending Set (R5). -/
def PendingSet.empty : PendingSet :=
  ⟨none, none, none, none, none, none, none, none, false⟩

/-- The active source (R11). -/
inductive ActiveSource where
  | em
  | safe
deriving DecidableEq, Repr

/-- The limit sets (section 1.2). -/
structure Limits where
  pend : PendingSet
  em : Option LimitSet
  safe : LimitSet
  active : LimitSet
  source : ActiveSource
deriving DecidableEq, Repr

/-- The capture pulse count (R16). -/
inductive CaptureCount where
  | zero
  | one
  | many
deriving DecidableEq, Repr

/-- A filter candidate and its count of equal samples, or none (R17). A level is true for high. -/
abbrev FilterState := Option (Bool × Nat)

/-- A metering channel: its capture (R16) and its pulse count (R18). -/
structure ChannelState where
  accepted : Option Bool
  filt : FilterState
  count : CaptureCount
  lastPulse : Option Word
  interval : Option Nat
  silenceRef : Word
  silent : Bool
  pulses : Word
deriving DecidableEq, Repr

/-- A battery bound line: asserted is some true, unknown none (R28). -/
structure BoundState where
  accepted : Option Bool
  filt : FilterState
deriving DecidableEq, Repr

/-- The metering inputs (chapter 2). -/
structure Metering where
  chan : Five ChannelState
  soc : Nat
  socClipped : Bool
  bfull : BoundState
  bempty : BoundState
deriving DecidableEq, Repr

/-- Which minute counter places a window's boundaries (R33). -/
inductive Basis where
  | clock
  | monotonic
deriving DecidableEq, Repr

/-- The current window record (section 3.1). -/
structure Window where
  basis : Basis
  startMinute : Nat
  endMinute : Nat
  length : Nat
  d : Nat
  elim : Nat
  e : Nat
deriving DecidableEq, Repr

/-- An entry of the window history (R40). -/
structure HistoryEntry where
  basis : Basis
  startMinute : Nat
  length : Nat
  e : Nat
  average : Nat
  d : Nat
  elim : Nat
  isOver : Bool
  isCut : Bool
deriving DecidableEq, Repr

/-- The demand guard (chapter 3). -/
structure Guard where
  window : Option Window
  history : List HistoryEntry
deriving DecidableEq, Repr

/-- A bay's state (section 4.1). -/
inductive BayState where
  | vacant
  | waiting
  | active
  | done
  | fallback
  | outOfService
deriving DecidableEq, Repr

/-- A bay record (section 4.1). -/
structure BayRec where
  number : Nat
  state : BayState
  plugged : Bool
  request : Nat
  measured : Nat
  connectorMax : Nat
  lastReading : Nat
  lastReport : Word
  stale : Bool
  fallbackStart : Option Nat
  hold : Nat
  promo : Nat
  session : Option Nat
deriving DecidableEq, Repr

/-- A bay record at its power-up values (R66); the release moment has the millisecond value 0. -/
def BayRec.fresh (k : Nat) : BayRec where
  number := k
  state := .vacant
  plugged := false
  request := 0
  measured := 0
  connectorMax := 0
  lastReading := 0
  lastReport := 0
  stale := false
  fallbackStart := none
  hold := 0
  promo := 0
  session := none

/-- The bay table (chapter 4). -/
structure BayTable where
  bays : List BayRec
  slotWait : List Nat
deriving DecidableEq, Repr

/-- The presence state of a port (R157). -/
inductive Presence where
  | present
  | lapsed
deriving DecidableEq, Repr

/-- The results of a round (R89). -/
structure RoundResults where
  roundNumber : Word
  network : Presence
  gin : Nat
  gout : Nat
  canopy : Nat
  bin : Nat
  bout : Nat
  csum : Nat
  load : Nat
  history : List Nat
  loadUsed : Nat
  allowance : Nat
  margin : Nat
  headroom : Int
  band : Option (Nat × Bool)
  soc : Nat
  bfull : Option Bool
  bempty : Option Bool
  shoppers : Nat
  standards : Nat
  rfix : Nat
  rstale : Nat
  dc : Nat
  charge : Nat
  discharge : Nat
  cb : Nat
  cfree : Nat
  shortfall : Nat
  canopyLimit : Nat
  sumC : Nat
  rotation : Nat
  targets : List (Nat × Nat)
deriving DecidableEq, Repr

/-- The allocator (chapter 5). -/
structure Allocator where
  loadHistory : List Nat
  rotation : Nat
  roundNumber : Word
  results : Option RoundResults
deriving DecidableEq, Repr

/-- A grant record (R93). -/
structure GrantRec where
  bay : Nat
  g : Nat
  a : Nat
  e : Nat
  deferred : Bool
  mismatch : Option Word
  overdue : Bool
deriving DecidableEq, Repr

/-- A grant record at its power-up values (R105). -/
def GrantRec.fresh (k : Nat) : GrantRec where
  bay := k
  g := 0
  a := 0
  e := 0
  deferred := false
  mismatch := none
  overdue := false

/-- The grant table (chapter 6). -/
structure GrantTable where
  grants : List GrantRec
  eg : Nat
  ea : Nat
deriving DecidableEq, Repr

/-- A setpoint output (chapter 7). -/
structure Output where
  current : Nat
  next : Option Nat
deriving DecidableEq, Repr

/-- The setpoint outputs. -/
structure Setpoints where
  bset : Output
  clim : Output
deriving DecidableEq, Repr

/-- A monotonic minute and a minute-of-day (section 8.1). -/
structure Stamp where
  mono : Nat
  dayMinute : Nat
deriving DecidableEq, Repr

/-- The state of a session record. -/
inductive SessionState where
  | opened
  | pendingReceipt
deriving DecidableEq, Repr

/-- Why a session closed (R124). -/
inductive CloseCause where
  | unplugged
  | endSession
  | outOfService
  | abandoned
deriving DecidableEq, Repr

/-- A band entry of a session (section 8.1). -/
structure BandEntry where
  index : Nat
  price : Nat
  peak : Bool
  wh : Nat
deriving DecidableEq, Repr

/-- The flags of a session (section 8.1). -/
structure SessionFlags where
  meterBack : Bool
  clamped : Bool
  incomplete : Bool
  tariffMerged : Bool
  clockUnset : Bool
  withdrawn : Bool
deriving DecidableEq, Repr

/-- A session record (section 8.1). -/
structure Session where
  number : Nat
  bay : Nat
  state : SessionState
  start : Stamp
  stop : Option Stamp
  cause : Option CloseCause
  base : Nat
  metered : Nat
  voucher : Option Nat
  creditGranted : Nat
  creditLeft : Nat
  free : Nat
  bands : List BandEntry
  flags : SessionFlags
deriving DecidableEq, Repr

/-- The session table (chapter 8): the records in admission order, the pending order as session numbers. -/
structure SessionTable where
  sessions : List Session
  pendingOrder : List Nat
  nextSession : Nat
deriving DecidableEq, Repr

/-- The state of a voucher (section 9.1). -/
inductive VoucherState where
  | unclaimed
  | claimed
  | withdrawn
deriving DecidableEq, Repr

/-- A voucher record (section 9.1). -/
structure Voucher where
  number : Nat
  till : Nat
  basket : Nat
  credit : Nat
  posted : Nat
  expiry : Nat
  state : VoucherState
  session : Option Nat
  bay : Option Nat
deriving DecidableEq, Repr

/-- The voucher list (chapter 9), in posting order. -/
structure VoucherList where
  vouchers : List Voucher
deriving DecidableEq, Repr

/-- A priced band entry of a receipt (R143, R144). -/
structure PricedEntry where
  index : Nat
  price : Nat
  peak : Bool
  wh : Nat
  cents : Nat
deriving DecidableEq, Repr

/-- A receipt (R143). The end stamp and the close cause are the session's own, present in every closed session. -/
structure Receipt where
  number : Nat
  session : Nat
  bay : Nat
  start : Stamp
  stop : Option Stamp
  cause : Option CloseCause
  total : Nat
  free : Nat
  voucher : Option Nat
  creditGranted : Nat
  entries : List PricedEntry
  charge : Nat
  flags : SessionFlags
  tillReleased : Bool
  owedNetwork : Bool
  owedTill : Bool
deriving DecidableEq, Repr

/-- The receipt queue (chapter 10), oldest first. -/
structure ReceiptQueue where
  receipts : List Receipt
  nextReceipt : Nat
  exhausted : Bool
  tillReleased : Bool
deriving DecidableEq, Repr

/-- The status codes (R156). -/
inductive Status where
  | ok
  | adjusted
  | badRequest
  | notPermitted
  | badState
  | unknownBay
  | unknownVoucher
  | duplicate
  | listFull
  | belowMinimum
  | notClaimable
  | outOfOrder
  | outOfRange
  | empty
deriving DecidableEq, Repr

/-- The notices of the three ports (section 11.4). -/
inductive Notice where
  | restarted
  | storeOverload
  | overcommit
  | demandExceeded
  | networkLapsed
  | ackOverdue
  | meterSilent
  | batteryBound
  | limitsTaken
  | grantsChanged
  | queueNearFull
  | receiptWaiting
  | slotWait
  | voucherExpired
deriving DecidableEq, Repr

/-- A detail of a notice: a number, or a name whose number the spec does not give (log 6). -/
inductive Detail where
  | num (n : Nat)
  | basis (b : Basis)
  | channel (c : Channel)
  | bound (b : BoundLine)
  | parts (limits tariff : Bool)
deriving DecidableEq, Repr

/-- A pending event notice: its count and its subject (R160). -/
structure EventNote where
  count : Nat
  a : Detail
  b : Detail
deriving DecidableEq, Repr

/-- The event notices of a port, each pending or not. A port uses those of its own list (section 11.4). -/
structure EventBox where
  restarted : Option EventNote
  storeOverload : Option EventNote
  demandExceeded : Option EventNote
  meterSilent : Option EventNote
  batteryBound : Option EventNote
  limitsTaken : Option EventNote
  grantsChanged : Option EventNote
  voucherExpired : Option EventNote
deriving DecidableEq, Repr

/-- No event notice pending. -/
def EventBox.none : EventBox :=
  ⟨.none, .none, .none, .none, .none, .none, .none, .none⟩

/-- PING's payload (R165). -/
structure PingReply where
  bayCount : Nat
  speed : Bool
  site : SiteState
  presentN : Bool
  presentT : Bool
  presentE : Bool
  lapsedN : Bool
  lapsedT : Bool
  lapsedE : Bool
  framing : Nat
  oversize : Nat
  badFrame : Nat
  overrun : Nat
deriving DecidableEq, Repr

/-- READ NOTICE's payload (R162). -/
structure NoticeReply where
  code : Nat
  count : Nat
  a : Detail
  b : Detail
  pendingSet : Half
  mask : Half
deriving DecidableEq, Repr

/-- READ SITE's payload (R14, R90). -/
structure SiteReply where
  monoMin : Nat
  minuteOfDay : Nat
  clockSeconds : Nat
  clockSet : Bool
  roundPeriod : Nat
  source : ActiveSource
  emPresent : Bool
  pendWaiting : Bool
  pendImportCap : Bool
  pendExportCap : Bool
  pendDemandLimit : Bool
  pendStoreMargin : Bool
  pendSocFloor : Bool
  pendSocCeil : Bool
  pendSocTarget : Bool
  pendTariff : Bool
  importCap : Nat
  exportCap : Nat
  demandLimit : Nat
  storeMargin : Nat
  socFloor : Nat
  socCeil : Nat
  socTarget : Nat
  bandCount : Nat
  bandIndex : Nat
  site : SiteState
  results : Option RoundResults
  committedSum : Nat
  overcommit : Bool
  network : Presence
  vacant : Nat
  waiting : Nat
  active : Nat
  done : Nat
  fallback : Nat
  outOfService : Nat
  slotWaitLength : Nat
  soc : Nat
  batteryCapacity : Nat
  socClipped : Bool
deriving DecidableEq, Repr

/-- READ WINDOWS' payload (R43): a present window with its remaining time and its allowance. -/
structure WindowsReply where
  windowLength : Nat
  window : Option (Window × Nat × Nat)
  history : List HistoryEntry
deriving DecidableEq, Repr

/-- One channel of READ CHANNELS' payload (R23). -/
structure ChannelReply where
  cfg : ChanCfg
  accepted : Option Bool
  pulses : Word
  count : CaptureCount
  interval : Option Nat
  tau : Option Nat
  silent : Bool
  estimate : Nat
deriving DecidableEq, Repr

/-- READ CHANNELS' payload (R23). -/
structure ChannelsReply where
  chan : Five ChannelReply
  silenceLimit : Nat
  soc : Nat
  batteryCapacity : Nat
  bfull : Option Bool
  bempty : Option Bool
  socClipped : Bool
deriving DecidableEq, Repr

/-- READ SESSION's payload (R128). -/
structure SessionReply where
  record : Session
  place : Nat
  pendingPlace : Option Nat
  bandKey : Option (Nat × Nat)
deriving DecidableEq, Repr

/-- One entry of BAY REPORTS' response (R48, R167). -/
structure ReportReply where
  bay : Nat
  state : BayState
  session : Option Nat
deriving DecidableEq, Repr

/-- One entry of READ GRANTS' response (R97, R167). -/
structure GrantReply where
  bay : Nat
  g : Nat
  a : Nat
  lag : Nat
  deferred : Bool
  overdue : Bool
deriving DecidableEq, Repr

/-- READ BAY's payload (R65). -/
structure BayReply where
  number : Nat
  state : BayState
  plugged : Bool
  request : Nat
  measured : Nat
  connectorMax : Nat
  lastReading : Nat
  reportAge : Nat
  stale : Bool
  /-- The fallback start minute and the time in FALLBACK in minutes. -/
  fallback : Option (Nat × Nat)
  hold : Nat
  promo : Nat
  session : Option Nat
  bayMax : Nat
  bayMin : Nat
  place : Option Nat
  g : Nat
  a : Nat
  e : Nat
deriving DecidableEq, Repr

/-- READ VOUCHER's payload (R140). -/
structure VoucherReply where
  record : Voucher
  place : Nat
  count : Nat
  minutesLeft : Option Nat
  /-- The bound session's credit remaining and free Wh. -/
  credit : Option (Nat × Nat)
deriving DecidableEq, Repr

/-- The state a WITHDRAW VOUCHER leaves (R138). -/
inductive WithdrawReply where
  | removed
  | withdrawn (session bay : Option Nat) (free : Nat)
deriving DecidableEq, Repr

/-- The payload of a response, by its content. -/
inductive Reply where
  | empty
  | ping (r : PingReply)
  | notice (r : NoticeReply)
  | mask (m : Half)
  | written (items : List (ConfigItem × Nat))
  | config (items : List (ConfigItem × Nat)) (n : Nat) (speed : Bool)
  | commitDetail (d : Nat)
  | site (r : SiteReply)
  | windows (r : WindowsReply)
  | channels (r : ChannelsReply)
  | session (r : SessionReply)
  | reports (entries : List ReportReply)
  | grants (eg ea : Nat) (entries : List GrantReply)
  | epochs (eg ea : Nat)
  | closed (session : Option Nat)
  | service (state : BayState) (closed : Option Nat)
  | claimed (session credit : Nat)
  | bay (r : BayReply)
  | posted (credit expiry : Nat)
  | withdrawn (r : WithdrawReply)
  | voucher (r : VoucherReply)
  | receipt (owed : Nat) (r : Receipt)
  | oldest (number : Nat)
deriving DecidableEq, Repr

/-- A response frame (R156, R167): the echoed tag, the request's command code, the status and the payload. -/
structure Response where
  tag : Byte
  code : Byte
  status : Status
  payload : Reply
deriving DecidableEq, Repr

/-- A port's receiver (R153). -/
structure Receiver where
  waitingGap : Bool
  bytes : List Byte
  count : Nat
  stopLow : Bool
deriving DecidableEq, Repr

/-- An empty receiver that takes the next character as a frame's first. -/
def Receiver.ready : Receiver :=
  ⟨false, [], 0, false⟩

/-- An empty receiver that waits for a gap, as after a release (R153). -/
def Receiver.waiting : Receiver :=
  ⟨true, [], 0, false⟩

/-- The state of one station port (chapter 11). -/
structure PortState where
  rx : Receiver
  tx : Option Response
  framing : Nat
  oversize : Nat
  badFrame : Nat
  overrun : Nat
  presence : Presence
  timer : Option Word
  lapseFlag : Bool
  lapseStart : Nat
  events : EventBox
  mask : Half
deriving DecidableEq, Repr

/-- The three station ports. -/
structure StationPorts where
  network : PortState
  till : PortState
  energy : PortState
deriving DecidableEq, Repr

/-- The retained domain's own state (section 12.4): the records it holds are the blocks' fields. -/
structure RetainedDomain where
  marker : Bool
  size1 : Bool
  size0 : Bool
deriving DecidableEq, Repr

/-- The state of the part: site state, configuration, the limits its expiries are judged by and straps (chapter 12), the
blocks, and the model's queue of waiting commands (log 1). -/
structure State where
  site : SiteState
  cfg : SiteCfg
  jl : JudgedLimits
  straps : Straps
  rd : RetainedDomain
  held : Option HeldReset
  tb : TimeBase
  ls : Limits
  mi : Metering
  dg : Guard
  bt : BayTable
  al : Allocator
  gt : GrantTable
  so : Setpoints
  st : SessionTable
  vl : VoucherList
  rq : ReceiptQueue
  sp : StationPorts
  pending : List Instr
deriving DecidableEq, Repr

/-- The time base after a power-up reset (R15). -/
def TimeBase.powerUp : TimeBase where
  ms := 0
  monoMin := 0
  monoPhase := 0
  minuteOfDay := 0
  clockPhase := 0
  clockSet := false
  nextTick := none
  advanceMade := false

/-- The Safe Set of the default configuration (R7, R15): the SoC items are clamped to a capacity of 0. -/
def LimitSet.defaultSafe : LimitSet where
  importCap := 2000
  exportCap := 0
  demandLimit := 0
  storeMargin := 100
  socFloor := 0
  socCeil := 0
  socTarget := 0
  tariff := [{ start := 0, price := 0, gridCharge := false, peak := false }]

/-- The limit sets after a power-up reset (R15). -/
def Limits.powerUp : Limits where
  pend := PendingSet.empty
  em := none
  safe := LimitSet.defaultSafe
  active := LimitSet.defaultSafe
  source := .safe

/-- The capture of a channel that has none: R22's state of a disabled channel, with the given pulse count. -/
def ChannelState.idle (pulses : Word) (silenceRef : Word) : ChannelState where
  accepted := none
  filt := none
  count := .zero
  lastPulse := none
  interval := none
  silenceRef := silenceRef
  silent := false
  pulses := pulses

/-- The metering inputs after a power-up reset (R31). -/
def Metering.powerUp : Metering where
  chan := Five.all (ChannelState.idle 0 0)
  soc := 0
  socClipped := false
  bfull := ⟨none, none⟩
  bempty := ⟨none, none⟩

/-- The idle duties of a release (R113). -/
def Setpoints.idle : Setpoints where
  bset := ⟨500, none⟩
  clim := ⟨1000, none⟩

/-- The notices of a port in the order of their codes, from 1 (section 11.4). -/
def noticesOf : Port → List Notice
  | .energy => [.restarted, .storeOverload, .overcommit, .demandExceeded, .networkLapsed, .ackOverdue,
      .meterSilent, .batteryBound, .limitsTaken]
  | .network => [.restarted, .grantsChanged, .ackOverdue, .queueNearFull, .receiptWaiting, .slotWait]
  | .till => [.restarted, .voucherExpired, .receiptWaiting]

/-- The mask that enables every notice of a port (R163). -/
def fullMask (p : Port) : Half :=
  BitVec.ofNat 16 (2 ^ (noticesOf p).length - 1)

/-- A port at a release (R159, R164, R166): RESTARTED is pending with the reset kind. -/
def PortState.released (p : Port) (kind : Nat) (monoMin : Nat) : PortState where
  rx := Receiver.waiting
  tx := none
  framing := 0
  oversize := 0
  badFrame := 0
  overrun := 0
  presence := .lapsed
  timer := none
  lapseFlag := true
  lapseStart := monoMin
  events := { EventBox.none with restarted := some ⟨1, .num kind, .num 0⟩ }
  mask := fullMask p

/-- The three ports at a release. -/
def StationPorts.released (kind : Nat) (monoMin : Nat) : StationPorts where
  network := PortState.released .network kind monoMin
  till := PortState.released .till kind monoMin
  energy := PortState.released .energy kind monoMin

/-- The part at the release of a reset that sets every block to its power-up values, with the straps sampled
then and RESTARTED of the given kind (R173: 1 for power-up, 3 for retention discarded). -/
def State.powerUp (straps : Straps) (kind : Nat) (pending : List Instr) : State where
  site := .configure
  cfg := SiteCfg.default straps.bayCount
  jl := (SiteCfg.default straps.bayCount).judged
  straps := straps
  rd := { marker := true, size1 := straps.size1, size0 := straps.size0 }
  held := none
  tb := TimeBase.powerUp
  ls := Limits.powerUp
  mi := Metering.powerUp
  dg := { window := none, history := [] }
  bt := { bays := (List.range' 1 straps.bayCount).map BayRec.fresh, slotWait := [] }
  al := { loadHistory := [], rotation := 1, roundNumber := 0, results := none }
  gt := { grants := (List.range' 1 straps.bayCount).map GrantRec.fresh, eg := 0, ea := 0 }
  so := Setpoints.idle
  st := { sessions := [], pendingOrder := [], nextSession := 1 }
  vl := { vouchers := [] }
  rq := { receipts := [], nextReceipt := 1, exhausted := false, tillReleased := false }
  sp := StationPorts.released kind 0
  pending := pending

/-- The part right after a power-up reset. The straps are inputs: all three low, DESIGN CHOICE (log 10). -/
def State.reset : State :=
  State.powerUp ⟨false, false, false⟩ 1 []

end Sys2Proof.Machine
end

