-- ==== Sys2Proof/Machine/Ops.lean ====
section
/-! DEFINITION. The named operations over the blocks' records that every meaning shares: durations, saturation,
ports and notices, bays, grants, sessions. -/

namespace Sys2Proof.Machine

/-- The duration from an earlier millisecond value to a later one, modulo 2 to the 32nd (R1). -/
def elapsed (now earlier : Word) : Nat :=
  (now - earlier).toNat

/-- A result saturated at the greatest power. -/
def satPower (n : Nat) : Nat :=
  min n Config.maxPower

/-- A signed result clamped into the range of a power (R69, R77). -/
def clampPower (x : Int) : Nat :=
  satPower x.toNat

/-- A result saturated at 4 294 967 295. -/
def satWord (n : Nat) : Nat :=
  min n Config.maxWord

/-- The sum of a list of numbers. -/
def total (l : List Nat) : Nat :=
  l.foldr (· + ·) 0

/-- A minute number: the exact value inside the 32-bit range, a free value beyond it (log 12). -/
def minuteNumber (n : Nat) : Nat :=
  if n ≤ Config.maxWord then n else (Config.minuteBeyondRange n).toNat

/-- A quotient rounded up. -/
def ceilDiv (n d : Nat) : Nat :=
  (n + (d - 1)) / d

/-- A number clamped into a range: below it takes the least value, above it the greatest (R169). -/
def clampTo (lo hi v : Nat) : Nat :=
  min (max v lo) hi

/-- The three SoC clamps of R8 against a battery capacity, in their order: floor, ceiling, target. -/
def clampSoc (capacity floor ceil target : Nat) : Nat × Nat × Nat :=
  let f := min floor capacity
  let c := clampTo f capacity ceil
  (f, c, clampTo f c target)

/-- The site is in RUN. -/
def State.isRun (s : State) : Bool :=
  decide (s.site = .run)

/-! ### Ports and event notices -/

/-- One port's state. -/
def StationPorts.get (x : StationPorts) : Port → PortState
  | .network => x.network
  | .till => x.till
  | .energy => x.energy

/-- The three ports with one replaced. -/
def StationPorts.set (x : StationPorts) (p : Port) (v : PortState) : StationPorts :=
  match p with
  | .network => { x with network := v }
  | .till => { x with till := v }
  | .energy => { x with energy := v }

/-- One port's state. -/
def State.port (s : State) (p : Port) : PortState :=
  s.sp.get p

/-- The state with one port's state changed. -/
def State.updPort (p : Port) (f : PortState → PortState) (s : State) : State :=
  { s with sp := s.sp.set p (f (s.sp.get p)) }

/-- A port is PRESENT (R157). -/
def State.isPresent (s : State) (p : Port) : Bool :=
  decide ((s.port p).presence = .present)

/-- The pending event notice of a name, if any; a level notice has none (R160). -/
def EventBox.get (x : EventBox) : Notice → Option EventNote
  | .restarted => x.restarted
  | .storeOverload => x.storeOverload
  | .demandExceeded => x.demandExceeded
  | .meterSilent => x.meterSilent
  | .batteryBound => x.batteryBound
  | .limitsTaken => x.limitsTaken
  | .grantsChanged => x.grantsChanged
  | .voucherExpired => x.voucherExpired
  | .overcommit => .none
  | .networkLapsed => .none
  | .ackOverdue => .none
  | .queueNearFull => .none
  | .receiptWaiting => .none
  | .slotWait => .none

/-- The event notices with one replaced; a level notice holds nothing to replace (R160). -/
def EventBox.set (x : EventBox) (n : Notice) (v : Option EventNote) : EventBox :=
  match n with
  | .restarted => { x with restarted := v }
  | .storeOverload => { x with storeOverload := v }
  | .demandExceeded => { x with demandExceeded := v }
  | .meterSilent => { x with meterSilent := v }
  | .batteryBound => { x with batteryBound := v }
  | .limitsTaken => { x with limitsTaken := v }
  | .grantsChanged => { x with grantsChanged := v }
  | .voucherExpired => { x with voucherExpired := v }
  | .overcommit => x
  | .networkLapsed => x
  | .ackOverdue => x
  | .queueNearFull => x
  | .receiptWaiting => x
  | .slotWait => x

/-- What a raise makes of an event notice: pending with count 1, or merged with the pending one (R160). -/
def EventNote.raised (old : Option EventNote) (a b : Detail) : EventNote :=
  match old with
  | none => ⟨1, a, b⟩
  | some o => ⟨min 255 (o.count + 1), a, b⟩

/-- A block raises an event notice on a port (R160). -/
def State.raise (p : Port) (n : Notice) (a b : Detail) (s : State) : State :=
  s.updPort p fun x => { x with events := x.events.set n (some (EventNote.raised (x.events.get n) a b)) }

/-- Adds 1 to a 16-bit link counter that saturates (R154). -/
def countUp (n : Nat) : Nat :=
  min (n + 1) 65535

/-! ### Bays -/

/-- The record of a bay, if the part has one. -/
def State.bay (s : State) (k : Nat) : Option BayRec :=
  s.bt.bays.find? fun b => b.number == k

/-- The state with one bay's record changed. -/
def State.updBay (k : Nat) (f : BayRec → BayRec) (s : State) : State :=
  { s with bt := { s.bt with bays := s.bt.bays.map fun b => if b.number = k then f b else b } }

/-- A known bay: 1 to the bay count in use (R45). -/
def State.isKnown (s : State) (k : Nat) : Bool :=
  decide (1 ≤ k ∧ k ≤ s.cfg.bayCount)

/-- A bay record of an in-service bay: known, and not OUT_OF_SERVICE (R45). -/
def State.inService (s : State) (b : BayRec) : Bool :=
  s.isKnown b.number && decide (b.state ≠ .outOfService)

/-- The in-service bays, in ascending bay number (R45). -/
def State.inServiceBays (s : State) : List BayRec :=
  s.bt.bays.filter s.inService

/-- A bay number names an in-service bay. -/
def State.isInService (s : State) (k : Nat) : Bool :=
  s.inServiceBays.any fun b => b.number == k

/-- A bay's bay max: the lesser of its connector max and the per-bay cap (R46). -/
def State.bayMax (s : State) (b : BayRec) : Nat :=
  min b.connectorMax s.cfg.perBayCap

/-- A bay leaves ACTIVE or FALLBACK for another state (R47): the stale flag is set in ACTIVE alone and the
fallback start minute is present in FALLBACK alone. -/
def BayRec.leave (st : BayState) (b : BayRec) : BayRec :=
  { b with state := st, stale := false, fallbackStart := none }

/-! ### Grants -/

/-- The grant record of a bay. -/
def State.grant (s : State) (k : Nat) : GrantRec :=
  (s.gt.grants.find? fun x => x.bay == k).getD (GrantRec.fresh k)

/-- The state with one bay's grant record changed. -/
def State.updGrant (k : Nat) (f : GrantRec → GrantRec) (s : State) : State :=
  { s with gt := { s.gt with grants := s.gt.grants.map fun x => if x.bay = k then f x else x } }

/-- A bay's committed value: the greater of its issued and its acknowledged grant (R93). -/
def State.committed (s : State) (k : Nat) : Nat :=
  max (s.grant k).g (s.grant k).a

/-- The committed sum over the in-service bays (R93). -/
def State.committedSum (s : State) : Nat :=
  total (s.inServiceBays.map fun b => s.committed b.number)

/-! ### Sessions, vouchers and receipts -/

/-- The session record that holds a number (R116). -/
def State.session (s : State) (n : Nat) : Option Session :=
  s.st.sessions.find? fun x => x.number == n

/-- The state with one session's record changed. -/
def State.updSession (n : Nat) (f : Session → Session) (s : State) : State :=
  { s with st := { s.st with sessions := s.st.sessions.map fun x => if x.number = n then f x else x } }

/-- The Session Table's capacity, N + 8 (R114). -/
def State.sessionSlots (s : State) : Nat :=
  s.straps.bayCount + Config.spareSlots

/-- The table has a free slot (R114). -/
def State.hasSlot (s : State) : Bool :=
  decide (s.st.sessions.length < s.sessionSlots)

/-- The voucher record that holds a shop receipt number (R132). -/
def State.voucher (s : State) (n : Nat) : Option Voucher :=
  s.vl.vouchers.find? fun v => v.number == n

/-- The OPEN sessions, in admission order (R115). -/
def State.openSessions (s : State) : List Session :=
  s.st.sessions.filter fun x => decide (x.state = .opened)

/-- The Receipt Queue answers room (R146). -/
def State.hasRoom (s : State) : Bool :=
  decide (s.rq.receipts.length < Config.queueSize) && !s.rq.exhausted

/-- A receipt is owed to a port (R147); port E is owed none. -/
def Receipt.owedTo (r : Receipt) : Port → Bool
  | .network => r.owedNetwork
  | .till => r.owedTill
  | .energy => false

/-- The receipts owed to a port, oldest first (R147). -/
def State.owed (s : State) (p : Port) : List Receipt :=
  s.rq.receipts.filter fun r => r.owedTo p

/-- The number of a port's oldest owed receipt, or 0 (R149). -/
def State.oldestOwed (s : State) (p : Port) : Nat :=
  match s.owed p with
  | [] => 0
  | r :: _ => r.number

/-- The first free place counted from 1, of the first element that meets a test. -/
def placeOf {α : Type} (f : α → Bool) (l : List α) : Option Nat :=
  (l.findIdx? f).map (· + 1)

end Sys2Proof.Machine
end

