-- ==== Sys2Proof/Machine/Flags.lean ====
section
/-! DEFINITION. The notices: the conditions and details of the level notices, the pending set, the selection of
READ NOTICE and the attention lines (R160 to R162), and the levels of the setpoint wires (R106, R113). -/

namespace Sys2Proof.Machine

/-- The in-service bays whose overdue mark is set, in ascending bay number (R101). -/
def State.overdueBays (s : State) : List Nat :=
  (s.inServiceBays.map (·.number)).filter fun k => (s.grant k).overdue

/-- OVERCOMMIT's condition (R88): in RUN, a round completed, and the committed sum above its Cb. -/
def State.overcommitted (s : State) : Bool :=
  match s.al.results with
  | none => false
  | some r => s.isRun && decide (r.cb < s.committedSum)

/-- The number of bays in FALLBACK (R62). -/
def State.countBays (s : State) (st : BayState) : Nat :=
  (s.bt.bays.filter fun b => s.isKnown b.number && decide (b.state = st)).length

/-- A level notice's condition on a port, from the owning block's state (R160); false for an event notice. -/
def State.levelHolds (s : State) (p : Port) : Notice → Bool
  | .overcommit => s.overcommitted
  | .networkLapsed => s.isRun && !s.isPresent .network
  | .ackOverdue => !s.overdueBays.isEmpty
  | .queueNearFull => decide (Config.nearFull ≤ s.rq.receipts.length)
  | .receiptWaiting => !(s.owed p).isEmpty
  | .slotWait => !s.bt.slotWait.isEmpty
  | .restarted => false
  | .storeOverload => false
  | .demandExceeded => false
  | .meterSilent => false
  | .batteryBound => false
  | .limitsTaken => false
  | .grantsChanged => false
  | .voucherExpired => false

/-- A level notice's details A and B, read at the moment of the request (R160, section 11.4). -/
def State.levelDetail (s : State) (p : Port) : Notice → Nat × Nat
  | .overcommit => (s.committedSum, (s.al.results.map (·.cb)).getD 0)
  | .networkLapsed => ((s.port .network).lapseStart, s.countBays .fallback)
  | .ackOverdue => (s.overdueBays.length, s.overdueBays.headD 0)
  | .queueNearFull => (s.rq.receipts.length, s.st.pendingOrder.length)
  | .receiptWaiting => ((s.owed p).length, s.oldestOwed p)
  | .slotWait => (s.bt.slotWait.length, s.bt.slotWait.headD 0)
  | .restarted => (0, 0)
  | .storeOverload => (0, 0)
  | .demandExceeded => (0, 0)
  | .meterSilent => (0, 0)
  | .batteryBound => (0, 0)
  | .limitsTaken => (0, 0)
  | .grantsChanged => (0, 0)
  | .voucherExpired => (0, 0)

/-- A notice of a port is pending (R160). -/
def State.isPending (s : State) (p : Port) (n : Notice) : Bool :=
  ((s.port p).events.get n).isSome || s.levelHolds p n

/-- The bit of a code in a mask or a pending set (R162, R163). -/
def codeBit (code : Nat) : Half :=
  BitVec.ofNat 16 (2 ^ (code - 1))

/-- The enable of a code in a mask (R163). -/
def maskEnables (mask : Half) (code : Nat) : Bool :=
  mask.getLsbD (code - 1)

/-- The notices of a port with their codes, in order of priority (section 11.4). -/
def codedNotices (p : Port) : List (Nat × Notice) :=
  (List.range' 1 (noticesOf p).length).zip (noticesOf p)

/-- The set of a port's pending notices, enabled or not, one bit per code (R162). -/
def State.pendingSet (s : State) (p : Port) : Half :=
  ((codedNotices p).filter fun x => s.isPending p x.2).foldl (fun m x => m ||| codeBit x.1) 0

/-- A notice of a port that is pending and enabled (R161). -/
def State.isShown (s : State) (p : Port) (x : Nat × Notice) : Bool :=
  s.isPending p x.2 && maskEnables (s.port p).mask x.1

/-- The port's attention line is pulled low (R161); every line is released while a reset is held. -/
def State.attentionLow (s : State) (p : Port) : Bool :=
  s.held.isNone && (codedNotices p).any (s.isShown p)

/-- The notice that READ NOTICE selects (R162): an unnamed read takes the pending, enabled notice with the lowest
code, a named read the named notice if it is pending. -/
def State.selectNotice (s : State) (p : Port) : Option Nat → Option (Nat × Notice)
  | none => (codedNotices p).find? (s.isShown p)
  | some code => (codedNotices p).find? fun x => x.1 == code && s.isPending p x.2

/-- The duty a setpoint wire shows in the present period: none is high impedance, while a reset is held
(R106, R113). -/
def State.wire (s : State) (o : Output) : Option Nat :=
  if s.held.isSome then none else some o.current

/-- The level of a setpoint wire in the microsecond of a number, 0 to 999, of the present period: true is high, for the
first microseconds up to the duty, and none is high impedance (R106, R113). -/
def State.wireHigh (s : State) (o : Output) (microsecond : Nat) : Option Bool :=
  (s.wire o).map fun duty => decide (microsecond < duty)

end Sys2Proof.Machine
end

