-- ==== Sys2Proof/Machine/Operands.lean ====
section
/-! DEFINITION. The operand forms: request payloads whose layout the spec gives, read into their fields.
Multi-byte fields are most significant byte first (R167). Each reader answers none where the rule of the
request refuses the payload with BAD_REQUEST. -/

namespace Sys2Proof.Machine

/-- A two-byte field (R167). -/
def be16 (b1 b0 : Byte) : Nat :=
  b1.toNat * 256 + b0.toNat

/-- A four-byte field (R167). -/
def be32 (b3 b2 b1 b0 : Byte) : Nat :=
  ((b3.toNat * 256 + b2.toNat) * 256 + b1.toNat) * 256 + b0.toNat

/-- PING's payload: whether the clear option is given (R165). -/
def pingOption : List Byte → Option Bool
  | [] => some false
  | [b] => if b = 0 then some false else if b = 1 then some true else none
  | _ => none

/-- READ NOTICE's payload on a port: none for an unnamed read, some code for a named one (R162). -/
def noticeName (p : Port) : List Byte → Option (Option Nat)
  | [] => some none
  | [b] => if 1 ≤ b.toNat ∧ b.toNat ≤ (noticesOf p).length then some (some b.toNat) else none
  | _ => none

/-- SET NOTICE MASK's payload (R163). -/
def maskField : List Byte → Option Half
  | [b1, b0] => some (b1 ++ b0)
  | _ => none

/-- SET CLOCK's payload: a minute-of-day and seconds in range (R3). -/
def clockFields : List Byte → Option (Nat × Nat)
  | [m1, m0, sec] => if be16 m1 m0 ≤ 1439 ∧ sec.toNat ≤ 59 then some (be16 m1 m0, sec.toNat) else none
  | _ => none

/-- ACK GRANTS' payload: an epoch (R98). -/
def epochField : List Byte → Option Nat
  | [b3, b2, b1, b0] => some (be32 b3 b2 b1 b0)
  | _ => none

/-- The one-byte payload of END SESSION and READ BAY: a bay number (R60, R65). -/
def bayField : List Byte → Option Nat
  | [b] => some b.toNat
  | _ => none

/-- SET BAY SERVICE's payload: a bay number and whether the choice is IN (R58). -/
def serviceFields : List Byte → Option (Nat × Bool)
  | [b, c] => if c = 0 then some (b.toNat, false) else if c = 1 then some (b.toNat, true) else none
  | _ => none

/-- One entry of BAY REPORTS (R48, R167). -/
structure ReportEntry where
  bay : Nat
  plugged : Bool
  request : Nat
  measured : Nat
  connectorMax : Nat
  reading : Nat
deriving DecidableEq, Repr

/-- A number of 12-byte report entries that fill a payload exactly, with plug states 0 or 1 (R48, R167). -/
def reportEntries : Nat → List Byte → Option (List ReportEntry)
  | 0, [] => some []
  | n + 1, k :: plug :: q1 :: q0 :: m1 :: m0 :: c1 :: c0 :: r3 :: r2 :: r1 :: r0 :: rest =>
    if plug.toNat ≤ 1 then
      (reportEntries n rest).map fun l =>
        ⟨k.toNat, decide (plug = 1), be16 q1 q0, be16 m1 m0, be16 c1 c0, be32 r3 r2 r1 r0⟩ :: l
    else none
  | _, _ => none

/-- BAY REPORTS' payload: 1 to 8 entries (R48). -/
def reportFields : List Byte → Option (List ReportEntry)
  | n :: rest => if 1 ≤ n.toNat ∧ n.toNat ≤ 8 then reportEntries n.toNat rest else none
  | [] => none

end Sys2Proof.Machine
end

