-- ==== Sys2Proof/Machine/StationPorts.lean ====
section
/-! DEFINITION. Station Ports (chapter 11): what every frame's completion does before and after the request it
carries, the network's return, and the grant epoch that the return takes. -/

namespace Sys2Proof.Machine

/-! ### The grant epoch (R94) and the network's return (R103) -/

/-- The next grant epoch: one more, saturating (R94, step 1). -/
def nextEpoch (eg : Nat) : Nat :=
  if eg = Config.maxWord then eg else eg + 1

/-- GT takes a new epoch for the bays that an event re-issues (R94). -/
def State.takeEpoch (reissued : Nat → Bool) (s : State) : State :=
  let eg := nextEpoch s.gt.eg
  let s1 := { s with gt := { s.gt with
    eg := eg
    grants := s.gt.grants.map fun (x : GrantRec) => if reissued x.bay then { x with e := eg } else x } }
  s1.raise .network .grantsChanged (.num eg) (.num 0)

/-- A bay's issued and acknowledged grants move to g and a, with the mismatch timing of R100: it starts when they come
to differ, is kept while they still differ, and ends with the overdue mark when they become equal. -/
def GrantRec.move (now : Word) (g a : Nat) (x : GrantRec) : GrantRec :=
  if g = a then { x with g := g, a := a, mismatch := none, overdue := false }
  else if x.g = x.a then { x with g := g, a := a, mismatch := some now }
  else { x with g := g, a := a }

/-- The return step of the Grant Table (R103): every in-service bay is re-issued at a new epoch, and each whose
grants differ starts its mismatch timing. -/
def State.returnGrants (s : State) : State :=
  let s1 := s.takeEpoch s.isInService
  { s1 with gt := { s1.gt with
    grants := s1.gt.grants.map fun (x : GrantRec) =>
      if s.isInService x.bay && decide (x.g ≠ x.a) then { x with mismatch := some s.tb.ms } else x } }

/-- What the blocks that serve a port's master do at its return (R158): the Grant Table's return step for port N in
RUN, the till-released mark for port T; port E's return is felt at the next round tick (R11). -/
def State.onReturn (p : Port) (s : State) : State :=
  match p with
  | .network => if s.isRun then s.returnGrants else s
  | .till => { s with rq := { s.rq with tillReleased := false } }
  | .energy => s

/-- A valid frame has completed on a port: the presence timer is restored and a LAPSED port returns, before
the request is taken (R156 to R158). -/
def State.frameValid (p : Port) (s : State) : State :=
  let s1 := s.updPort p fun x => { x with presence := .present, timer := some s.tb.ms }
  if s.isPresent p then s1 else s1.onReturn p

/-! ### A frame's completion -/

/-- The receiver is empty again after a completion. -/
def State.emptyReceiver (p : Port) (s : State) : State :=
  s.updPort p fun x => { x with rx := Receiver.ready }

/-- A frame completes while the response before it is still being sent: it is discarded and counted (R155). -/
def State.countOverrun (p : Port) (s : State) : State :=
  (s.updPort p fun x => { x with overrun := countUp x.overrun }).emptyReceiver p

/-- The response starts on the transmit line (R155, R156). -/
def State.respond (p : Port) (tag code : Byte) (st : Status) (payload : Reply) (s : State) : State :=
  s.updPort p fun x => { x with tx := some ⟨tag, code, st, payload⟩ }

/-- What a block makes of a request: its effect, the status and the payload of the response. -/
abbrev Handler := State → State × Status × Reply

/-- The ports on which a command is permitted (section 11.6). -/
def permitted (ports : List Port) (p : Port) : Bool :=
  ports.contains p

/-- A frame with a known command has completed while no response is being sent: the receiver is empty, the frame is
valid for presence (R153, R156 to R158). -/
def State.arrive (p : Port) (s : State) : State :=
  (s.emptyReceiver p).frameValid p

/-- A well-formed frame with a known command completes on a port (R155, R156): no effect while a reset is held,
OVERRUN while a response is being sent; else the port's presence, then the block that owns the request, then the response. -/
def takeRequest (ports : List Port) (p : Port) (tag code : Byte) (h : Handler) (s : State) : State :=
  if s.held.isSome then s
  else if (s.port p).tx.isSome then s.countOverrun p
  else
    let s1 := s.arrive p
    if permitted ports p then
      let r := h s1
      r.1.respond p tag code r.2.1 r.2.2
    else s1.respond p tag code .notPermitted .empty

/-- A refusal: no effect, and an empty payload (R156). -/
def refuse (st : Status) (s : State) : State × Status × Reply :=
  (s, st, .empty)

/-- The handler of a request whose payload must be empty. -/
def bareRequest (payload : List Byte) (h : Handler) (s : State) : State × Status × Reply :=
  match payload with
  | [] => h s
  | _ :: _ => refuse .badRequest s

/-- An event of the part, of its pins or of its time base: it does not come about while a reset is held. -/
def unlessHeld (f : State → State) (s : State) : State :=
  if s.held.isSome then s else f s

/-! ### PING, READ NOTICE and SET NOTICE MASK -/

/-- PING's payload (R165). -/
def State.pingReply (p : Port) (s : State) : PingReply where
  bayCount := s.straps.bayCount
  speed := s.straps.speed
  site := s.site
  presentN := s.isPresent .network
  presentT := s.isPresent .till
  presentE := s.isPresent .energy
  lapsedN := (s.port .network).lapseFlag
  lapsedT := (s.port .till).lapseFlag
  lapsedE := (s.port .energy).lapseFlag
  framing := (s.port p).framing
  oversize := (s.port p).oversize
  badFrame := (s.port p).badFrame
  overrun := (s.port p).overrun

/-- The clear option of PING (R165): the port's link counters and its lapse flag. -/
def State.clearLink (p : Port) (s : State) : State :=
  s.updPort p fun x => { x with framing := 0, oversize := 0, badFrame := 0, overrun := 0, lapseFlag := false }

/-- PING at the Station Ports (R165). -/
def handlePing (p : Port) (payload : List Byte) : Handler := fun s =>
  match pingOption payload with
  | none => refuse .badRequest s
  | some clear => (if clear then s.clearLink p else s, .ok, .ping (s.pingReply p))

/-- READ NOTICE's payload for the selected notice (R162). With none selected the code and the count are 0; the two details
are free values (log 26). -/
def State.noticeReply (p : Port) (s : State) : Option (Nat × Notice) → NoticeReply
  | none => ⟨0, 0, .num (Config.noneDetail true s.tb.ms).toNat, .num (Config.noneDetail false s.tb.ms).toNat, s.pendingSet p,
    (s.port p).mask⟩
  | some (code, n) =>
    match (s.port p).events.get n with
    | some note => ⟨code, note.count, note.a, note.b, s.pendingSet p, (s.port p).mask⟩
    | none =>
      ⟨code, 1, .num (s.levelDetail p n).1, .num (s.levelDetail p n).2, s.pendingSet p, (s.port p).mask⟩

/-- The selected notice stops being pending if it is an event notice (R162). -/
def State.clearNotice (p : Port) (sel : Option (Nat × Notice)) (s : State) : State :=
  match sel with
  | none => s
  | some (_, n) => s.updPort p fun x => { x with events := x.events.set n none }

/-- READ NOTICE at the Station Ports (R162). -/
def handleReadNotice (p : Port) (payload : List Byte) : Handler := fun s =>
  match noticeName p payload with
  | none => refuse .badRequest s
  | some name =>
    let sel := s.selectNotice p name
    (s.clearNotice p sel, .ok, .notice (s.noticeReply p sel))

/-- SET NOTICE MASK at the Station Ports (R163): the bits of the codes in the port's list are taken. -/
def handleSetNoticeMask (p : Port) (payload : List Byte) : Handler := fun s =>
  match maskField payload with
  | none => refuse .badRequest s
  | some m =>
    (s.updPort p fun x => { x with mask := m &&& fullMask p }, .ok, .mask (m &&& fullMask p))

/-! ### Line events -/

/-- The first check of R154 that a completed frame fails, as the counter it adds to: 0 FRAMING, 1 OVERSIZE,
2 BAD_FRAME; none for a well-formed frame. -/
def frameFailure (rx : Receiver) : Option Nat :=
  if rx.stopLow then some 0
  else if Config.frameBytes < rx.count then some 1
  else if badFrame rx.bytes then some 2
  else none

/-- A failed frame adds 1 to its link counter (R154). -/
def PortState.countFailure (k : Nat) (x : PortState) : PortState :=
  match k with
  | 0 => { x with framing := countUp x.framing }
  | 1 => { x with oversize := countUp x.oversize }
  | _ => { x with badFrame := countUp x.badFrame }

/-- The frame in a port's receiver completes and fails a check (R154); while a response is being sent it counts as
OVERRUN instead (R155, log 9). -/
def State.discardFrame (p : Port) (s : State) : State :=
  if (s.port p).rx.count = 0 then s
  else if (s.port p).tx.isSome then s.countOverrun p
  else
    match frameFailure (s.port p).rx with
    | none => s
    | some k => (s.updPort p (PortState.countFailure k)).emptyReceiver p

/-- A well-formed frame with a command byte outside the catalogue (R156): answered BAD_REQUEST, not valid for
presence; OVERRUN while a response is being sent. A catalogued code is another command's: nothing. -/
def State.unknownFrame (p : Port) (tag code : Byte) (s : State) : State :=
  if codeUnknown code then
    if (s.port p).tx.isSome then s.countOverrun p
    else (s.emptyReceiver p).respond p tag code .badRequest .empty
  else s

/-- A character arrives (R153): stored up to 245 bytes, counted, a low stop bit noted; before the first gap after a
release it is no part of a frame. -/
def Receiver.take (byte : Byte) (stopLow : Bool) (rx : Receiver) : Receiver :=
  if rx.waitingGap then rx
  else
    { rx with
      bytes := if rx.count < Config.frameBytes then rx.bytes ++ [byte] else rx.bytes
      count := rx.count + 1
      stopLow := rx.stopLow || stopLow }

/-! ### Meanings -/

/-- PING (R165). -/
def execPing (p : Port) (tag : Byte) (payload : List Byte) (s : State) : Host.Outcome State Fault Refusal :=
  .next (takeRequest [.network, .till, .energy] p tag 0x01 (handlePing p payload) s)

/-- READ NOTICE (R162). -/
def execReadNotice (p : Port) (tag : Byte) (payload : List Byte) (s : State) : Host.Outcome State Fault Refusal :=
  .next (takeRequest [.network, .till, .energy] p tag 0x02 (handleReadNotice p payload) s)

/-- SET NOTICE MASK (R163). -/
def execSetNoticeMask (p : Port) (tag : Byte) (payload : List Byte) (s : State) : Host.Outcome State Fault Refusal :=
  .next (takeRequest [.network, .till, .energy] p tag 0x03 (handleSetNoticeMask p payload) s)

/-- FRAME_DISCARD (R154). -/
def execFrameDiscard (p : Port) (s : State) : Host.Outcome State Fault Refusal :=
  .next (unlessHeld (State.discardFrame p) s)

/-- OVERRUN (R155): only while a response is being sent. -/
def execOverrun (p : Port) (s : State) : Host.Outcome State Fault Refusal :=
  .next (unlessHeld (fun s => if (s.port p).tx.isSome then s.countOverrun p else s) s)

/-- UNKNOWN_COMMAND (R156). -/
def execUnknownCommand (p : Port) (tag code : Byte) (s : State) : Host.Outcome State Fault Refusal :=
  .next (unlessHeld (State.unknownFrame p tag code) s)

/-- RESPONSE_END (R155): the transmit line is idle again. -/
def execResponseEnd (p : Port) (s : State) : Host.Outcome State Fault Refusal :=
  .next (unlessHeld (State.updPort p fun x => { x with tx := none }) s)

/-- CHARACTER_RECEIVED (R153). -/
def execCharacterReceived (p : Port) (byte : Byte) (stopLow : Bool) (s : State) : Host.Outcome State Fault Refusal :=
  .next (unlessHeld (State.updPort p fun x => { x with rx := x.rx.take byte stopLow }) s)

/-- RECEIVER_GAP (R153): the empty receiver that waited for a gap takes frames from now on. -/
def execReceiverGap (p : Port) (s : State) : Host.Outcome State Fault Refusal :=
  .next (unlessHeld (State.updPort p fun x =>
    { x with rx := if x.rx.waitingGap then Receiver.ready else x.rx }) s)

end Sys2Proof.Machine
end

