-- ==== Sys2Proof/Machine/LimitSets.lean ====
section
/-! DEFINITION. Limit Sets (section 1.2, 1.3): SET LIMITS, SET TARIFF, the take at a round tick, the Safe Set, the
Active Set and the band lookup. -/

namespace Sys2Proof.Machine

/-- A limit set with its SoC fields clamped against a capacity (R8, R12). -/
def LimitSet.clampSoc (capacity : Nat) (x : LimitSet) : LimitSet :=
  let c := Machine.clampSoc capacity x.socFloor x.socCeil x.socTarget
  { x with socFloor := c.1, socCeil := c.2.1, socTarget := c.2.2 }

/-- The tariff of the Safe Set: the EM Set's, or one zero-priced band (R7). -/
def safeTariff (em : Option LimitSet) : List Band :=
  match em with
  | some x => x.tariff
  | none => [{ start := 0, price := 0, gridCharge := false, peak := false }]

/-- The Safe Set of a configuration and an EM Set (R7). -/
def buildSafe (cfg : SiteCfg) (em : Option LimitSet) : LimitSet :=
  LimitSet.clampSoc cfg.batteryCapacity
    { importCap := cfg.safeImportCap
      exportCap := 0
      demandLimit := cfg.safeDemand
      storeMargin := cfg.safeMargin
      socFloor := cfg.safeFloor
      socCeil := cfg.safeCeil
      socTarget := cfg.safeTarget
      tariff := safeTariff em }

/-- The first of the request, the Pending Set, the EM Set and the Safe Set that has a value (R8). -/
def socSource (request : Option Word) (pend : Option Nat) (em : Option LimitSet) (field : LimitSet → Nat)
    (safe : LimitSet) : Nat :=
  match request, pend, em with
  | some v, _, _ => v.toNat
  | none, some v, _ => v
  | none, none, some x => field x
  | none, none, none => field safe

/-- The request carries no limit field (R8). -/
def carriesNone (q : LimitFields) : Bool :=
  q.importCap.isNone && q.exportCap.isNone && q.demandLimit.isNone && q.storeMargin.isNone &&
    q.socFloor.isNone && q.socCeil.isNone && q.socTarget.isNone

/-- The request carries a SoC field (R8). -/
def carriesSoc (q : LimitFields) : Bool :=
  q.socFloor.isSome || q.socCeil.isSome || q.socTarget.isSome

/-- A carried value replaces a pending one (R5). -/
def carried (request : Option Half) (pend : Option Nat) : Option Nat :=
  match request with
  | some v => some v.toNat
  | none => pend

/-- The floor, the ceiling and the target that LS first forms for a SET LIMITS (R8). -/
def socFormed (ls : Limits) (q : LimitFields) : Nat × Nat × Nat :=
  (socSource q.socFloor ls.pend.socFloor ls.em LimitSet.socFloor ls.safe,
   socSource q.socCeil ls.pend.socCeil ls.em LimitSet.socCeil ls.safe,
   socSource q.socTarget ls.pend.socTarget ls.em LimitSet.socTarget ls.safe)

/-- The Pending Set after a SET LIMITS, and whether a clamp changed a value (R8). -/
def mergeLimits (capacity : Nat) (ls : Limits) (q : LimitFields) : PendingSet × Bool :=
  let p1 : PendingSet := { ls.pend with
    importCap := carried q.importCap ls.pend.importCap
    exportCap := carried q.exportCap ls.pend.exportCap
    demandLimit := carried q.demandLimit ls.pend.demandLimit
    storeMargin := (carried q.storeMargin ls.pend.storeMargin).map fun m =>
      if q.storeMargin.isSome then min m Config.maxMargin else m
    waiting := true }
  let marginCut := match q.storeMargin with
    | some m => decide (Config.maxMargin < m.toNat)
    | none => false
  if carriesSoc q then
    let f := socFormed ls q
    let c := clampSoc capacity f.1 f.2.1 f.2.2
    ({ p1 with socFloor := some c.1, socCeil := some c.2.1, socTarget := some c.2.2 },
      marginCut || decide (c ≠ f))
  else (p1, marginCut)

/-- SET LIMITS at the Limit Sets (R8). -/
def handleSetLimits (body : Body LimitFields) : Handler := fun s =>
  match body with
  | .misfit => refuse .badRequest s
  | .fields q =>
    if carriesNone q then refuse .badRequest s
    else
      let m := mergeLimits s.cfg.batteryCapacity s.ls q
      ({ s with ls := { s.ls with pend := m.1 } }, if m.2 then .adjusted else .ok, .empty)

/-- A band as SET TARIFF carries it. -/
def bandOf (b : BandFields) : Band :=
  ⟨b.start.toNat, b.price.toNat, b.gridCharge, b.peak⟩

/-- The starts strictly increase from the first band to the last (R9). -/
def startsRise : List Band → Bool
  | b :: c :: rest => decide (b.start < c.start) && startsRise (c :: rest)
  | _ => true

/-- A table SET TARIFF takes: 1 to 8 bands, starts strictly increasing and at most 1439 (R9). -/
def tariffOk (t : List Band) : Bool :=
  decide (1 ≤ t.length ∧ t.length ≤ 8) && startsRise t && t.all fun b => decide (b.start ≤ 1439)

/-- SET TARIFF at the Limit Sets (R9). -/
def handleSetTariff (body : Body (List BandFields)) : Handler := fun s =>
  match body with
  | .misfit => refuse .badRequest s
  | .fields l =>
    if tariffOk (l.map bandOf) then
      ({ s with ls := { s.ls with pend :=
          { s.ls.pend with tariff := some (l.map bandOf), waiting := true } } }, .ok, .empty)
    else refuse .badRequest s

/-- A part of the EM Set after a take: the pending part if present, else the base's (R10). -/
def takePart {α : Type} (pend : Option α) (base : α) : α :=
  pend.getD base

/-- The EM Set after a take (R10): present parts replace, and a set that was absent is filled from the Safe Set. -/
def takenSet (pend : PendingSet) (base : LimitSet) : LimitSet where
  importCap := takePart pend.importCap base.importCap
  exportCap := takePart pend.exportCap base.exportCap
  demandLimit := takePart pend.demandLimit base.demandLimit
  storeMargin := takePart pend.storeMargin base.storeMargin
  socFloor := takePart pend.socFloor base.socFloor
  socCeil := takePart pend.socCeil base.socCeil
  socTarget := takePart pend.socTarget base.socTarget
  tariff := takePart pend.tariff base.tariff

/-- A limit field is present in the Pending Set (R10's detail). -/
def PendingSet.hasLimits (p : PendingSet) : Bool :=
  p.importCap.isSome || p.exportCap.isSome || p.demandLimit.isSome || p.storeMargin.isSome ||
    p.socFloor.isSome || p.socCeil.isSome || p.socTarget.isSome

/-- The take of a waiting Pending Set at a round tick (R10). -/
def State.takePending (s : State) : State :=
  if s.ls.pend.waiting then
    let s1 := { s with ls := { s.ls with
      em := some (takenSet s.ls.pend (s.ls.em.getD s.ls.safe))
      pend := PendingSet.empty } }
    s1.raise .energy .limitsTaken (.parts s.ls.pend.hasLimits s.ls.pend.tariff.isSome) (.num 0)
  else s

/-- LS rebuilds the Safe Set (R7). -/
def State.rebuildSafe (s : State) : State :=
  { s with ls := { s.ls with safe := buildSafe s.cfg s.ls.em } }

/-- LS makes the Active Set a copy of the EM Set or of the Safe Set, by port E's presence (R11). -/
def State.chooseActive (s : State) : State :=
  match s.ls.em with
  | some x =>
    if s.isPresent .energy then { s with ls := { s.ls with active := x, source := .em } }
    else { s with ls := { s.ls with active := s.ls.safe, source := .safe } }
  | none => { s with ls := { s.ls with active := s.ls.safe, source := .safe } }

/-- The Limit Sets at a round tick: the take, the rebuild and the choice (R10, R7, R11). -/
def State.tickLimits (s : State) : State :=
  s.takePending.rebuildSafe.chooseActive

/-- The Pending Set's SoC fields, if present, clamped at COMMIT SITE (R12). -/
def PendingSet.clampSoc (capacity : Nat) (p : PendingSet) : PendingSet :=
  match p.socFloor, p.socCeil, p.socTarget with
  | some f, some c, some t =>
    let k := Machine.clampSoc capacity f c t
    { p with socFloor := some k.1, socCeil := some k.2.1, socTarget := some k.2.2 }
  | _, _, _ => p

/-- The Limit Sets at COMMIT SITE (R12). -/
def State.commitLimits (s : State) : State :=
  let em := s.ls.em.map (LimitSet.clampSoc s.cfg.batteryCapacity)
  let safe := buildSafe s.cfg em
  { s with ls :=
    { pend := s.ls.pend.clampSoc s.cfg.batteryCapacity
      em := em
      safe := safe
      active := safe
      source := .safe } }

/-! ### Band lookup (R13) -/

/-- The place, counted from 0, of the last band whose start is not above a minute: the count of such bands. -/
def bandsStarted (t : List Band) (minute : Nat) : Nat :=
  (t.filter fun b => decide (b.start ≤ minute)).length

/-- The index of the current band of a table at a minute-of-day, counted from 1; before the first start it is the
last band (R13). -/
def bandIndex (t : List Band) (minute : Nat) : Nat :=
  if bandsStarted t minute = 0 then t.length else bandsStarted t minute

/-- The current band's index and the band (R13). -/
def State.lookup (s : State) : Nat × Band :=
  let i := bandIndex s.ls.active.tariff s.tb.minuteOfDay
  (i, (s.ls.active.tariff[i - 1]?).getD { start := 0, price := 0, gridCharge := false, peak := false })

/-! ### Meanings -/

/-- SET LIMITS (R8). -/
def execSetLimits (p : Port) (tag : Byte) (body : Body LimitFields) (s : State) : Host.Outcome State Fault Refusal :=
  .next (takeRequest [.energy] p tag 0x14 (handleSetLimits body) s)

/-- SET TARIFF (R9). -/
def execSetTariff (p : Port) (tag : Byte) (body : Body (List BandFields)) (s : State) :
    Host.Outcome State Fault Refusal :=
  .next (takeRequest [.energy] p tag 0x15 (handleSetTariff body) s)

end Sys2Proof.Machine
end

