-- ==== Sys2Proof/Machine/DemandGuard.lean ====
section
/-! DEFINITION. The Demand Guard (chapter 3): the window and its energy, the allowance, the window end, the cuts and
the history. -/

namespace Sys2Proof.Machine

/-- The minute counter of a basis (R33). -/
def State.counter (s : State) : Basis → Nat
  | .clock => s.tb.minuteOfDay
  | .monotonic => s.tb.monoMin

/-- The phase of a basis (R33). -/
def State.phase (s : State) : Basis → Nat
  | .clock => s.tb.clockPhase
  | .monotonic => s.tb.monoPhase

/-- The basis of a window that opens now (R33). -/
def State.windowBasis (s : State) : Basis :=
  if s.tb.clockSet then .clock else .monotonic

/-- The next aligned boundary: the least multiple of the window's minutes strictly after the counter's minute; on the
minute-of-day 1440 is written as 0 (R33). -/
def nextBoundary (minutes : Nat) (basis : Basis) (counter : Nat) : Nat :=
  match basis with
  | .clock => ((counter / minutes + 1) * minutes) % 1440
  | .monotonic => minuteNumber ((counter / minutes + 1) * minutes)

/-- The minutes from a basis's counter to an end minute (R37). -/
def State.minutesTo (s : State) (basis : Basis) (endMinute : Nat) : Nat :=
  match basis with
  | .clock => (endMinute + 1440 - s.tb.minuteOfDay) % 1440
  | .monotonic => endMinute - s.tb.monoMin

/-- The remaining time to an end minute's boundary, in whole seconds rounded up and at least 1 (R37). -/
def State.remainingTo (s : State) (basis : Basis) (endMinute : Nat) : Nat :=
  max 1 (ceilDiv (s.minutesTo basis endMinute * 60000 - s.phase basis) 1000)

/-- The remaining time of a window (R37). -/
def State.remaining (s : State) (w : Window) : Nat :=
  s.remainingTo w.basis w.endMinute

/-- The limit energy of a demand limit over a length (R36). -/
def limitEnergy (d length : Nat) : Nat :=
  d * length / 36

/-- The end minute of a window that opens now (R33). -/
def State.windowEndMinute (s : State) : Nat :=
  nextBoundary (s.cfg.windowLength / 60) s.windowBasis (s.counter s.windowBasis)

/-- A window of a length that opens now, against the Active Set's demand limit (R33, R34, R39, R41). -/
def State.newWindow (s : State) (length : Nat) : Window where
  basis := s.windowBasis
  startMinute := s.counter s.windowBasis
  endMinute := s.windowEndMinute
  length := length
  d := s.ls.active.demandLimit
  elim := limitEnergy s.ls.active.demandLimit length
  e := 0

/-- The time from now to the end minute of a window that opens now (R34, R41). -/
def State.partLength (s : State) : Nat :=
  s.remainingTo s.windowBasis s.windowEndMinute

/-- A history entry of a window that ends with a recorded length (R40). -/
def historyEntry (w : Window) (length : Nat) (cut : Bool) : HistoryEntry where
  basis := w.basis
  startMinute := w.startMinute
  length := length
  e := w.e
  average := satPower (w.e * 36 / length)
  d := w.d
  elim := w.elim
  isOver := decide (w.d ≠ 0 ∧ w.elim < w.e)
  isCut := cut

/-- The history with an entry appended; a ninth removes the oldest first (R40). -/
def appendHistory (h : List HistoryEntry) (x : HistoryEntry) : List HistoryEntry :=
  (if h.length < Config.historySize then h else h.drop 1) ++ [x]

/-- An ending window leaves its entry, and DEMAND_EXCEEDED if it is OVER (R39, R41). -/
def State.recordWindow (w : Window) (length : Nat) (cut : Bool) (s : State) : State :=
  let x := historyEntry w length cut
  let s1 := { s with dg := { s.dg with history := appendHistory s.dg.history x } }
  if x.isOver then s1.raise .energy .demandExceeded (.num x.startMinute) (.basis x.basis) else s1

/-- The current window is replaced (R32). -/
def State.setWindow (w : Option Window) (s : State) : State :=
  { s with dg := { s.dg with window := w } }

/-- The elapsed length of a window that is cut now: its planned length minus the remaining time, at least 1 (R41). -/
def State.cutLength (s : State) (w : Window) : Nat :=
  max 1 (w.length - s.remaining w)

/-- COMMIT SITE opens the first window (R34). -/
def State.openFirstWindow (s : State) : State :=
  s.setWindow (some (s.newWindow s.partLength))

/-- SET CLOCK has been taken in RUN: the running window, measured as it stood before, is cut and a prorated
window opens (R41). -/
def State.clockCut (s before : State) : State :=
  match s.dg.window with
  | none => s
  | some w =>
    let s1 := s.recordWindow w (before.cutLength w) true
    s1.setWindow (some (s1.newWindow s1.partLength))

/-- ENTER CONFIGURE ends the running window as a cut, without a successor (R42). -/
def State.configureCut (s : State) : State :=
  match s.dg.window with
  | none => s
  | some w => (s.recordWindow w (s.cutLength w) true).setWindow none

/-- The window end (R39), at the minute event that brings the window's counter to its end minute. -/
def State.endWindow (s : State) : State :=
  match s.dg.window with
  | none => s
  | some w =>
    if s.isRun && decide (s.counter w.basis = w.endMinute) then
      let s1 := s.recordWindow w w.length false
      s1.setWindow (some (s1.newWindow s1.cfg.windowLength))
    else s

/-- A GRID_IN pulse's weight enters the current window in RUN (R35). -/
def State.importEnergy (weight : Nat) (s : State) : State :=
  if s.isRun then
    s.setWindow (s.dg.window.map fun w => { w with e := satWord (w.e + weight) })
  else s

/-- The recomputation of the limit energy at a round tick (R36). -/
def State.tickGuard (s : State) : State :=
  match s.dg.window with
  | none => s
  | some w =>
    if s.ls.active.demandLimit = w.d then s
    else s.setWindow (some { w with
      d := s.ls.active.demandLimit
      elim := limitEnergy s.ls.active.demandLimit w.length })

/-- The demand allowance of a window (R38). -/
def State.windowAllowance (s : State) (w : Window) : Nat :=
  if w.d = 0 then s.ls.active.importCap
  else if w.elim ≤ w.e then 0
  else min s.ls.active.importCap ((w.elim - w.e) * 36 / s.remaining w)

/-- The demand allowance (R38). DG holds a window exactly in RUN (R32); without one nothing may be imported. -/
def State.allowance (s : State) : Nat :=
  match s.dg.window with
  | none => 0
  | some w => s.windowAllowance w

/-- READ WINDOWS' payload (R43). -/
def State.windowsReply (s : State) : WindowsReply where
  windowLength := s.cfg.windowLength
  window := s.dg.window.map fun w => (w, s.remaining w, s.windowAllowance w)
  history := s.dg.history

/-- READ WINDOWS at the Demand Guard (R43). -/
def handleReadWindows (payload : List Byte) : Handler :=
  bareRequest payload fun s => (s, .ok, .windows s.windowsReply)

/-! ### Meanings -/

/-- READ WINDOWS (R43). -/
def execReadWindows (p : Port) (tag : Byte) (payload : List Byte) (s : State) : Host.Outcome State Fault Refusal :=
  .next (takeRequest [.energy] p tag 0x18 (handleReadWindows payload) s)

/-- WINDOW_END (R39). -/
def execWindowEnd (s : State) : Host.Outcome State Fault Refusal :=
  .next (unlessHeld State.endWindow s)

end Sys2Proof.Machine
end

