-- ==== Sys2Proof/Machine/TimeBase.lean ====
section
/-! DEFINITION. The Time Base (section 1.1): the counters, the minute events, SET CLOCK and the round schedule; and
the millisecond period of the setpoint outputs, which ends at the advance of the counter (R106, R107). -/

namespace Sys2Proof.Machine

/-- A millisecond of the crystal (R1, R2): the counter and the two phases advance. -/
def TimeBase.advance (t : TimeBase) : TimeBase :=
  { t with ms := t.ms + 1, monoPhase := t.monoPhase + 1, clockPhase := t.clockPhase + 1 }

/-- The silence limit and the presence limits are compared with as configured from the next millisecond on (R20, R157). -/
def JudgedLimits.atMillisecond (cfg : SiteCfg) (x : JudgedLimits) : JudgedLimits :=
  { cfg.judged with tillHold := x.tillHold }

/-- The till hold is judged as configured from the next monotonic minute event on (R150). -/
def JudgedLimits.atMinute (cfg : SiteCfg) (x : JudgedLimits) : JudgedLimits :=
  { x with tillHold := cfg.tillHold }

/-- A millisecond passes: the time base advances (R1, R2), and a limit written before it is in force (R20, R157). -/
def State.advanceMs (s : State) : State :=
  { s with tb := s.tb.advance, jl := s.jl.atMillisecond s.cfg }

/-- At the end of a period a next duty becomes the current one (R107). -/
def Output.transfer (o : Output) : Output :=
  match o.next with
  | some d => { current := d, next := none }
  | none => o

/-- The end of a millisecond period: the counter advances, unless a round tick that comes with this period's end has
made the advance (log 2), and the duties transfer (R1, R2, R107). -/
def State.endPeriod (s : State) : State :=
  let s1 := if s.tb.advanceMade then { s with tb := { s.tb with advanceMade := false } } else s.advanceMs
  { s1 with so := { bset := s.so.bset.transfer, clim := s.so.clim.transfer } }

/-- The monotonic minute event (R2). -/
def TimeBase.monotonicMinute (t : TimeBase) : TimeBase :=
  { t with monoPhase := t.monoPhase - 60000, monoMin := minuteNumber (t.monoMin + 1) }

/-- The monotonic minute event, once the phase has reached 60 000 (R2); a till hold written before it is judged from here
on (R150). -/
def State.countMinute (s : State) : State :=
  if 60000 ≤ s.tb.monoPhase then { s with tb := s.tb.monotonicMinute, jl := s.jl.atMinute s.cfg } else s

/-- The clock minute event (R2), once the clock phase has reached 60 000. -/
def TimeBase.clockMinute (t : TimeBase) : TimeBase :=
  if 60000 ≤ t.clockPhase then
    { t with
      clockPhase := t.clockPhase - 60000
      minuteOfDay := if t.minuteOfDay = 1439 then 0 else t.minuteOfDay + 1 }
  else t

/-- The clock's whole seconds, 0 to 59 (section 1.1). -/
def TimeBase.clockSeconds (t : TimeBase) : Nat :=
  min 59 (t.clockPhase / 1000)

/-- SET CLOCK sets the minute-of-day, the clock phase and the clock-set flag (R3). -/
def TimeBase.setClock (minute seconds : Nat) (t : TimeBase) : TimeBase :=
  { t with minuteOfDay := minute, clockPhase := seconds * 1000, clockSet := true }

/-- SET CLOCK at the Time Base; in RUN the Demand Guard then cuts its window (R3, R41). -/
def handleSetClock (payload : List Byte) : Handler := fun s =>
  match clockFields payload with
  | none => refuse .badRequest s
  | some (minute, seconds) =>
    let s1 := { s with tb := s.tb.setClock minute seconds }
    (if s.isRun then s1.clockCut s else s1, .ok, .empty)

/-! ### The round schedule (R4) -/

/-- The round period in milliseconds. -/
def State.periodMs (s : State) : Nat :=
  s.cfg.roundPeriod * 1000

/-- The schedule starts: the first tick falls one round period from now (R4). -/
def State.startSchedule (s : State) : State :=
  { s with tb := { s.tb with nextTick := some (s.tb.ms + BitVec.ofNat 32 s.periodMs) } }

/-- The schedule stops (R4). -/
def State.stopSchedule (s : State) : State :=
  { s with tb := { s.tb with nextTick := none } }

/-- One round period has passed since the tick before (or the entry), at a millisecond value (R4). -/
def State.tickReached (s : State) (now : Word) : Bool :=
  match s.tb.nextTick with
  | none => false
  | some t => decide (s.periodMs ≤ elapsed now (t - BitVec.ofNat 32 s.periodMs))

/-- A round tick is due now (R4): in RUN, its time reached. -/
def State.tickDue (s : State) : Bool :=
  s.isRun && s.tickReached s.tb.ms

/-- A round tick comes together with the end of the present period, whose advance brings the counter to the tick's
time (R107, log 2). -/
def State.tickComing (s : State) : Bool :=
  s.isRun && !s.tb.advanceMade && !s.tickReached s.tb.ms && s.tickReached (s.tb.ms + 1)

/-- The moment of a round tick: if it is taken before the period end it comes with, it makes the counter's
advance itself (log 2). -/
def State.comeToTick (s : State) : State :=
  if s.tickComing then { s.advanceMs with tb := { s.tb.advance with advanceMade := true } } else s

/-- The next tick falls one round period after this one (R4). -/
def State.scheduleNext (s : State) : State :=
  { s with tb := { s.tb with nextTick := s.tb.nextTick.map (· + BitVec.ofNat 32 s.periodMs) } }

/-! ### Meanings -/

/-- SET CLOCK (R3). -/
def execSetClock (p : Port) (tag : Byte) (payload : List Byte) (s : State) : Host.Outcome State Fault Refusal :=
  .next (takeRequest [.energy] p tag 0x16 (handleSetClock payload) s)

/-- PERIOD_END (R107, R1, R2). -/
def execPeriodEnd (s : State) : Host.Outcome State Fault Refusal :=
  .next (unlessHeld State.endPeriod s)

/-- MONOTONIC_MINUTE_EVENT (R2). -/
def execMonotonicMinuteEvent (s : State) : Host.Outcome State Fault Refusal :=
  .next (unlessHeld State.countMinute s)

/-- CLOCK_MINUTE_EVENT (R2). -/
def execClockMinuteEvent (s : State) : Host.Outcome State Fault Refusal :=
  .next (unlessHeld (fun s => { s with tb := s.tb.clockMinute }) s)

end Sys2Proof.Machine
end

