-- ==== Sys2Proof/Machine/Metering.lean ====
section
/-! DEFINITION. Metering Inputs (chapter 2): filtering, pulses, silence, the power estimate, the state of charge and
the bound lines. -/

namespace Sys2Proof.Machine

/-- The silence limit in milliseconds, as an interval and an estimate use it (R18, R21). -/
def State.silenceMs (s : State) : Nat :=
  s.cfg.silenceLimit * 1000

/-- The silence limit in milliseconds that a quiet time is compared with: a changed limit from the next millisecond
(R20). -/
def State.judgedSilenceMs (s : State) : Nat :=
  s.jl.silence * 1000

/-- One channel's state. -/
def State.chan (s : State) (c : Channel) : ChannelState :=
  s.mi.chan.get c

/-- One channel's configuration. -/
def State.chanCfg (s : State) (c : Channel) : ChanCfg :=
  s.cfg.chan.get c

/-- The state with one channel's state changed. -/
def State.updChan (c : Channel) (f : ChannelState → ChannelState) (s : State) : State :=
  { s with mi := { s.mi with chan := s.mi.chan.set c (f (s.mi.chan.get c)) } }

/-! ### Filtering (R17) -/

/-- The filter candidate and its count after a sample (R17). -/
def filterStep (length : Nat) (filt : FilterState) (sample : Bool) : Bool × Nat :=
  match filt with
  | some (level, n) => if level = sample then (level, min (n + 1) length) else (sample, 1)
  | none => (sample, 1)

/-- The sample brings its level's count to the filter length, and that level differs from the accepted one (R17). -/
def accepts (length : Nat) (filt : FilterState) (accepted : Option Bool) (sample : Bool) : Bool :=
  decide ((filterStep length filt sample).2 = length ∧ accepted ≠ some sample)

/-- The active level of a channel: high for a rising edge, low for a falling one (section 2.1). -/
def ChanCfg.activeLevel (x : ChanCfg) : Bool :=
  !x.falling

/-! ### Pulses (R18, R19) and the state of charge (R24 to R27) -/

/-- The capture pulse count after a pulse (R18, step 5). -/
def CaptureCount.up : CaptureCount → CaptureCount
  | .zero => .one
  | .one => .many
  | .many => .many

/-- The interval a pulse stores (R18, step 2): after a silent episode, at least the silence limit plus 1 ms. -/
def pulseInterval (now : Word) (silenceMs : Nat) (x : ChannelState) : Option Nat :=
  match x.lastPulse with
  | none => x.interval
  | some t => some (if x.silent then max (elapsed now t) (silenceMs + 1) else elapsed now t)

/-- A channel's own state after a pulse (R18, steps 1 to 5). -/
def ChannelState.pulse (now : Word) (silenceMs : Nat) (x : ChannelState) : ChannelState :=
  { x with
    pulses := x.pulses + 1
    interval := pulseInterval now silenceMs x
    lastPulse := some now
    silenceRef := now
    silent := false
    count := x.count.up }

/-- A BATT_IN pulse adds to the SoC, up to the capacity (R26). -/
def State.chargeSoc (weight : Nat) (s : State) : State :=
  if s.cfg.batteryCapacity < s.mi.soc + weight then
    { s with mi := { s.mi with soc := s.cfg.batteryCapacity, socClipped := true } }
  else { s with mi := { s.mi with soc := s.mi.soc + weight } }

/-- A BATT_OUT pulse subtracts from the SoC, down to 0 (R27). -/
def State.dischargeSoc (weight : Nat) (s : State) : State :=
  { s with mi := { s.mi with soc := s.mi.soc - weight } }

/-- A pulse is handed to the block that uses it (R18, step 6). -/
def State.handPulse (c : Channel) (s : State) : State :=
  match c with
  | .gridIn => s.importEnergy (s.chanCfg .gridIn).weight
  | .gridOut => s
  | .canopy => s
  | .battIn => s.chargeSoc (s.chanCfg .battIn).weight
  | .battOut => s.dischargeSoc (s.chanCfg .battOut).weight

/-- A pulse is taken on a channel (R18). -/
def State.takePulse (c : Channel) (s : State) : State :=
  (s.updChan c (ChannelState.pulse s.tb.ms s.silenceMs)).handPulse c

/-- A sample of an enabled channel (R17): the filter, and, at the sample that brings the count to F, the
change of the accepted level, which is a pulse from the inactive to the active level. -/
def State.sampleChannel (c : Channel) (level : Bool) (s : State) : State :=
  let cfg := s.chanCfg c
  let x := s.chan c
  if cfg.enabled then
    let s1 := s.updChan c fun x => { x with filt := some (filterStep cfg.filter x.filt level) }
    if accepts cfg.filter x.filt x.accepted level then
      let s2 := s1.updChan c fun x => { x with accepted := some level }
      if x.accepted.isSome && level == cfg.activeLevel then s2.takePulse c else s2
    else s1
  else s

/-- The sample at the active level now would be a pulse (R17). -/
def State.pulseDue (s : State) (c : Channel) : Bool :=
  (s.chanCfg c).enabled && (s.chan c).accepted.isSome &&
    accepts (s.chanCfg c).filter (s.chan c).filt (s.chan c).accepted (s.chanCfg c).activeLevel

/-- The sample at a level now would change the accepted level without a pulse: to the inactive level, or from
unknown (R17). -/
def State.quietChangeDue (s : State) (c : Channel) (level : Bool) : Bool :=
  (s.chanCfg c).enabled && accepts (s.chanCfg c).filter (s.chan c).filt (s.chan c).accepted level &&
    ((s.chan c).accepted.isNone || !(level == (s.chanCfg c).activeLevel))

/-! ### Bound lines (R28, R29) -/

/-- One bound line's state. -/
def State.bound (s : State) : BoundLine → BoundState
  | .bfull => s.mi.bfull
  | .bempty => s.mi.bempty

/-- The state with one bound line's state replaced. -/
def State.setBound (b : BoundLine) (x : BoundState) (s : State) : State :=
  match b with
  | .bfull => { s with mi := { s.mi with bfull := x } }
  | .bempty => { s with mi := { s.mi with bempty := x } }

/-- The SoC at an assertion: the capacity for BFULL, 0 for BEMPTY (R29). -/
def State.boundSoc (s : State) : BoundLine → Nat
  | .bfull => s.cfg.batteryCapacity
  | .bempty => 0

/-- A bound line is asserted: the SoC is set and BATTERY_BOUND raised (R29). -/
def State.assertBound (b : BoundLine) (s : State) : State :=
  ({ s with mi := { s.mi with soc := s.boundSoc b } }).raise .energy .batteryBound (.bound b) (.num 0)

/-- A sample of a bound line (R28, R29). -/
def State.sampleBound (b : BoundLine) (level : Bool) (s : State) : State :=
  let x := s.bound b
  let f := filterStep Config.boundFilter x.filt level
  if accepts Config.boundFilter x.filt x.accepted level then
    let s1 := s.setBound b ⟨some level, some f⟩
    if level then s1.assertBound b else s1
  else s.setBound b { x with filt := some f }

/-- The sample at a level now would change a bound line's accepted state (R28). -/
def State.boundChangeDue (s : State) (b : BoundLine) (level : Bool) : Bool :=
  accepts Config.boundFilter (s.bound b).filt (s.bound b).accepted level

/-- A bound line is asserted, an unknown state counting as deasserted (R30). -/
def BoundState.isAsserted (x : BoundState) : Bool :=
  x.accepted == some true

/-! ### Silence (R20) -/

/-- A channel takes its silence expiry now (R20). -/
def State.silenceDue (s : State) (c : Channel) : Bool :=
  (s.chanCfg c).enabled && !(s.chan c).silent && decide (s.judgedSilenceMs < elapsed s.tb.ms (s.chan c).silenceRef)

/-- A silence expiry sets the silent mark and raises METER_SILENT (R20). -/
def State.expireSilence (c : Channel) (s : State) : State :=
  if s.silenceDue c then
    (s.updChan c fun x => { x with silent := true }).raise .energy .meterSilent (.channel c) (.num 0)
  else s

/-! ### The estimate (R21) -/

/-- τ, the time since the last pulse of the capture (R21). -/
def ChannelState.tau (now : Word) (x : ChannelState) : Option Nat :=
  x.lastPulse.map (elapsed now)

/-- A channel's power estimate (R21). -/
def State.estimate (s : State) (c : Channel) : Nat :=
  let x := s.chan c
  if !(s.chanCfg c).enabled || decide (x.count ≠ .many) || x.silent then 0
  else
    match x.tau s.tb.ms, x.interval with
    | some tau, some interval =>
      if s.silenceMs < tau then 0 else satPower ((s.chanCfg c).weight * 36000 / max interval tau)
    | _, _ => 0

/-! ### Captures (R16, R22) -/

/-- A capture begins on an enabled channel (R16). -/
def ChannelState.beginCapture (now : Word) (x : ChannelState) : ChannelState :=
  ChannelState.idle x.pulses now

/-- The capture of a channel ends: R22's state of a disabled channel. -/
def ChannelState.endCapture (x : ChannelState) : ChannelState :=
  ChannelState.idle x.pulses x.silenceRef

/-- What a change of a channel's configuration does to its capture (R16): enabling it, or changing the edge or the
filter length of an enabled channel, begins a capture; disabling it ends the capture. -/
def recapture (now : Word) (old new : ChanCfg) (x : ChannelState) : ChannelState :=
  if new.enabled then
    if !old.enabled || decide (old.falling ≠ new.falling) || decide (old.filter ≠ new.filter) then
      x.beginCapture now
    else x
  else if old.enabled then x.endCapture
  else x

/-! ### READ CHANNELS (R23) -/

/-- One channel of READ CHANNELS' payload (R23). -/
def State.channelReply (s : State) (c : Channel) : ChannelReply where
  cfg := s.chanCfg c
  accepted := (s.chan c).accepted
  pulses := (s.chan c).pulses
  count := (s.chan c).count
  interval := (s.chan c).interval
  tau := (s.chan c).tau s.tb.ms
  silent := (s.chan c).silent
  estimate := s.estimate c

/-- READ CHANNELS' payload (R23). -/
def State.channelsReply (s : State) : ChannelsReply where
  chan := ⟨s.channelReply .gridIn, s.channelReply .gridOut, s.channelReply .canopy, s.channelReply .battIn,
    s.channelReply .battOut⟩
  silenceLimit := s.cfg.silenceLimit
  soc := s.mi.soc
  batteryCapacity := s.cfg.batteryCapacity
  bfull := s.mi.bfull.accepted
  bempty := s.mi.bempty.accepted
  socClipped := s.mi.socClipped

/-- READ CHANNELS at the Metering Inputs (R23). -/
def handleReadChannels (payload : List Byte) : Handler :=
  bareRequest payload fun s => (s, .ok, .channels s.channelsReply)

/-! ### Meanings -/

/-- READ CHANNELS (R23). -/
def execReadChannels (p : Port) (tag : Byte) (payload : List Byte) (s : State) : Host.Outcome State Fault Refusal :=
  .next (takeRequest [.energy] p tag 0x19 (handleReadChannels payload) s)

/-- FILTER_SAMPLE (R17, R28): one millisecond sample of a line. -/
def execFilterSample (line : SampledLine) (level : Bool) (s : State) : Host.Outcome State Fault Refusal :=
  .next (unlessHeld (fun s =>
    match line with
    | .channel c => s.sampleChannel c level
    | .bound b => s.sampleBound b level) s)

/-- PULSE (R18): the sample at the active level that makes a pulse. -/
def execPulse (c : Channel) (s : State) : Host.Outcome State Fault Refusal :=
  .next (unlessHeld (fun s => if s.pulseDue c then s.sampleChannel c (s.chanCfg c).activeLevel else s) s)

/-- INACTIVE_LEVEL_CHANGE (R17): the sample that changes the accepted level without a pulse. -/
def execInactiveLevelChange (c : Channel) (level : Bool) (s : State) : Host.Outcome State Fault Refusal :=
  .next (unlessHeld (fun s => if s.quietChangeDue c level then s.sampleChannel c level else s) s)

/-- BOUND_ASSERTION (R29): the high sample that changes a bound line's accepted state. -/
def execBoundAssertion (b : BoundLine) (s : State) : Host.Outcome State Fault Refusal :=
  .next (unlessHeld (fun s => if s.boundChangeDue b true then s.sampleBound b true else s) s)

/-- BOUND_DEASSERTION (R29): the low sample that changes a bound line's accepted state. -/
def execBoundDeassertion (b : BoundLine) (s : State) : Host.Outcome State Fault Refusal :=
  .next (unlessHeld (fun s => if s.boundChangeDue b false then s.sampleBound b false else s) s)

/-- SILENCE_EXPIRY (R20). -/
def execSilenceExpiry (c : Channel) (s : State) : Host.Outcome State Fault Refusal :=
  .next (unlessHeld (State.expireSilence c) s)

end Sys2Proof.Machine
end

