-- ==== Sys2Proof/Machine/Grants.lean ====
section
/-! DEFINITION. Grants (chapter 6): the issue of a round, ACK GRANTS, the lowering between rounds, the overdue
expiry, the lapse treatment's grants and READ GRANTS. -/

namespace Sys2Proof.Machine

/-! ### Issuing a round's targets (R95, R96) -/

/-- The target of a bay in a list of (bay, target) pairs. -/
def targetOf (targets : List (Nat × Nat)) (k : Nat) : Option Nat :=
  (targets.find? fun x => x.1 == k).map (·.2)

/-- The first pass (R95): every bay whose target is below its issued grant is lowered to it. -/
def reduceGrant (now : Word) (targets : List (Nat × Nat)) (x : GrantRec) : GrantRec :=
  match targetOf targets x.bay with
  | some t => if t < x.g then x.move now t x.a else x
  | none => x

/-- The largest power a raise may issue (R95): room is what the budget leaves beside the other bays' committed values. -/
def raiseTo (bayMin : Nat) (room : Int) (g a t : Nat) : Option Nat :=
  if room < (a : Int) then none
  else
    let v := min t room.toNat
    if g < v ∧ bayMin ≤ v then some v else none

/-- The second pass at one bay (R95): its raise, if there is one, against the committed sum as it stands. -/
def State.raiseOne (targets : List (Nat × Nat)) (cb : Nat) (s : State) (k : Nat) : State :=
  match targetOf targets k with
  | none => s
  | some t =>
    let x := s.grant k
    if x.g < t then
      let room : Int := (cb : Int) - ((s.committedSum : Int) - (s.committed k : Int))
      match raiseTo s.cfg.bayMin room x.g x.a t with
      | some v => s.updGrant k fun y => y.move s.tb.ms v y.a
      | none => s
    else s

/-- The DEFERRED mark after the issue (R96): the round could not issue the bay's whole target. -/
def markDeferred (targets : List (Nat × Nat)) (x : GrantRec) : GrantRec :=
  { x with deferred := match targetOf targets x.bay with
    | some t => decide (x.g < t)
    | none => false }

/-- Every grant record changed by a function. -/
def State.mapGrants (f : GrantRec → GrantRec) (s : State) : State :=
  { s with gt := { s.gt with grants := s.gt.grants.map f } }

/-- The bays in admission order of their OPEN sessions (R95, R115). -/
def State.admissionBays (s : State) : List Nat :=
  s.openSessions.map (·.bay)

/-- Both passes of an issue, without the marks and the epoch (R95). -/
def State.issuePasses (targets : List (Nat × Nat)) (cb : Nat) (s : State) : State :=
  s.admissionBays.foldl (State.raiseOne targets cb) (s.mapGrants (reduceGrant s.tb.ms targets))

/-- The issue of a round (R95): reductions, raises, the DEFERRED marks, and an epoch if an issued grant changed. -/
def State.issueTargets (targets : List (Nat × Nat)) (cb : Nat) (s : State) : State :=
  let s1 := (s.issuePasses targets cb).mapGrants (markDeferred targets)
  let changed := fun k => decide ((s1.grant k).g ≠ (s.grant k).g)
  if s1.gt.grants.any fun x => changed x.bay then s1.takeEpoch changed else s1

/-! ### Lowering between rounds (R99) -/

/-- What a report's new bay max lowers a grant to: the bay max, or 0 below the bay min (R99). -/
def loweredGrant (bayMin bayMax : Nat) : Nat :=
  if bayMax < bayMin then 0 else bayMax

/-- A report leaves an in-service bay with an issued grant above its new bay max: the grant is lowered and the bay takes a
new epoch (R49, R99). -/
def State.lowerByReport (k bayMax : Nat) (s : State) : State :=
  if bayMax < (s.grant k).g then
    (s.updGrant k fun x => x.move s.tb.ms (loweredGrant s.cfg.bayMin bayMax) x.a).takeEpoch (· == k)
  else s

/-- A grant record with no grant and no mark, as a service change or ENTER CONFIGURE leaves it (R99, R104). -/
def GrantRec.clear (x : GrantRec) : GrantRec :=
  { x with g := 0, a := 0, deferred := false, mismatch := none, overdue := false }

/-- SET BAY SERVICE takes a bay OUT: its grants are zeroed, with an epoch if the issued grant was not 0 (R58, R99). -/
def State.outGrant (k : Nat) (s : State) : State :=
  let s1 := s.updGrant k GrantRec.clear
  if (s.grant k).g = 0 then s1 else s1.takeEpoch (· == k)

/-! ### Acknowledgement (R98) and the overdue expiry (R100) -/

/-- An acknowledged bay takes a = g (R98). -/
def ackGrant (now : Word) (epoch : Nat) (x : GrantRec) : GrantRec :=
  if x.e ≤ epoch then x.move now x.g x.g else x

/-- ACK GRANTS at the Grant Table (R98). An OUT_OF_RANGE refusal carries no payload: DESIGN CHOICE (log 25), R98 leaves open
whether its two epochs go with a refusal too. -/
def handleAckGrants (payload : List Byte) : Handler := fun s =>
  match epochField payload with
  | none => refuse .badRequest s
  | some e =>
    if s.gt.eg < e then refuse .outOfRange s
    else
      let s1 := if e < s.gt.ea then s
        else { s with gt := { s.gt with grants := s.gt.grants.map (ackGrant s.tb.ms e), ea := e } }
      (s1, .ok, .epochs s1.gt.eg s1.gt.ea)

/-- A bay takes its overdue expiry now (R100). -/
def State.overdueDue (s : State) (k : Nat) : Bool :=
  s.isRun && s.isPresent .network && s.isInService k && !(s.grant k).overdue &&
    match (s.grant k).mismatch with
    | none => false
    | some t => decide (s.cfg.ackLimit * 1000 < elapsed s.tb.ms t)

/-- The overdue expiry sets the overdue mark (R100). -/
def State.expireOverdue (k : Nat) (s : State) : State :=
  if s.overdueDue k then s.updGrant k fun x => { x with overdue := true } else s

/-! ### Lapse and site states (R102, R104) -/

/-- The lapse treatment's grant record (R102). -/
def GrantRec.lapse (fallbackPower : Nat) (x : GrantRec) : GrantRec :=
  { x with g := 0, a := fallbackPower, deferred := false, mismatch := none, overdue := false }

/-- The lapse treatment at the Grant Table: every in-service bay (R102). -/
def State.lapseGrants (s : State) : State :=
  s.mapGrants fun x => if s.isInService x.bay then x.lapse s.cfg.fallbackPower else x

/-- ENTER CONFIGURE clears every grant (R104). -/
def State.clearGrants (s : State) : State :=
  s.mapGrants GrantRec.clear

/-- COMMIT SITE sets both epochs and every issue epoch to 0 (R104). -/
def State.zeroEpochs (s : State) : State :=
  { s with gt := { grants := s.gt.grants.map fun (x : GrantRec) => { x with e := 0 }, eg := 0, ea := 0 } }

/-! ### READ GRANTS (R97) -/

/-- One entry of READ GRANTS (R97). -/
def State.grantReply (s : State) (k : Nat) : GrantReply where
  bay := k
  g := (s.grant k).g
  a := (s.grant k).a
  lag := satPower (s.gt.eg - (s.grant k).e)
  deferred := (s.grant k).deferred
  overdue := (s.grant k).overdue

/-- READ GRANTS at the Grant Table (R97). Its rule refuses no payload (log 7). -/
def handleReadGrants : Handler := fun s =>
  (s, .ok, .grants s.gt.eg s.gt.ea (s.inServiceBays.map fun b => s.grantReply b.number))

/-! ### Meanings -/

/-- READ GRANTS (R97). -/
def execReadGrants (p : Port) (tag : Byte) (_payload : List Byte) (s : State) : Host.Outcome State Fault Refusal :=
  .next (takeRequest [.network] p tag 0x21 handleReadGrants s)

/-- ACK GRANTS (R98). -/
def execAckGrants (p : Port) (tag : Byte) (payload : List Byte) (s : State) : Host.Outcome State Fault Refusal :=
  .next (takeRequest [.network] p tag 0x22 (handleAckGrants payload) s)

/-- OVERDUE_EXPIRY (R100). -/
def execOverdueExpiry (k : Nat) (s : State) : Host.Outcome State Fault Refusal :=
  .next (unlessHeld (State.expireOverdue k) s)

end Sys2Proof.Machine
end

