-- ==== Sys2Proof/Machine/Sessions.lean ====
section
/-! DEFINITION. Sessions, their receipts and the Slot Wait List (chapters 8, 10; R55): opening, metering, closing, the
building and pricing of receipts, the queue's freed places, and READ SESSION. -/

namespace Sys2Proof.Machine

/-- The stamp of this moment: the monotonic minute and the minute-of-day. -/
def State.stamp (s : State) : Stamp :=
  ⟨s.tb.monoMin, s.tb.minuteOfDay⟩

/-! ### Opening and admission (R116 to R118, R50, R55) -/

/-- The session number after a number: from 65 535 to 1 (R116). -/
def nextNumber (n : Nat) : Nat :=
  if n = 65535 then 1 else n + 1

/-- The first number from n that no record holds; each step passes one held number (R116). -/
def freeNumber (held : List Nat) : Nat → Nat → Nat
  | 0, n => n
  | fuel + 1, n => if held.contains n then freeNumber held fuel (nextNumber n) else n

/-- The number the next session takes (R116). -/
def State.newNumber (s : State) : Nat :=
  freeNumber (s.st.sessions.map (·.number)) s.st.sessions.length s.st.nextSession

/-- No flag set. -/
def SessionFlags.clear : SessionFlags :=
  ⟨false, false, false, false, false, false⟩

/-- A session's record at its opening (R117). -/
def State.newSession (s : State) (k base : Nat) : Session where
  number := s.newNumber
  bay := k
  state := .opened
  start := s.stamp
  stop := none
  cause := none
  base := base
  metered := 0
  voucher := none
  creditGranted := 0
  creditLeft := 0
  free := 0
  bands := []
  flags := { SessionFlags.clear with clockUnset := !s.tb.clockSet }

/-- A session opens for a bay with a meter base, and the bay goes to ACTIVE or FALLBACK bound to it
(R117, R47, R50, R55). -/
def State.openSession (k base : Nat) (st : BayState) (fallbackStart : Option Nat) (s : State) : State :=
  let n := s.newNumber
  let s1 := { s with st := { s.st with
    sessions := s.st.sessions ++ [s.newSession k base]
    nextSession := nextNumber n } }
  s1.updBay k fun b =>
    { b with state := st, fallbackStart := fallbackStart, session := some n, hold := 0, promo := 0 }

/-- A freed slot admits the head of the Slot Wait List, if there is one (R118, R55). -/
def State.admitHead (s : State) : State :=
  match s.bt.slotWait with
  | [] => s
  | k :: rest =>
    let base := ((s.bay k).map (·.lastReading)).getD 0
    let s1 := { s with bt := { s.bt with slotWait := rest } }
    if s.isPresent .network then s1.openSession k base .active none
    else s1.openSession k base .fallback (some s.tb.monoMin)

/-! ### Metering (R119 to R122) -/

/-- The limit of an increment: 25 % beyond the connector max over Δt, and 10 Wh (R119). -/
def incrementLimit (connectorMax dt : Nat) : Nat :=
  satWord (connectorMax * dt / 28800 + 10)

/-- The increment of a reading at or above the base, before the metered total is looked at (R119). -/
def rawIncrement (base reading connectorMax dt : Nat) : Nat :=
  min (reading - base) (incrementLimit connectorMax dt)

/-- Adds energy to the first entry with a key (R121). -/
def addToKey (index price wh : Nat) : List BandEntry → List BandEntry
  | [] => []
  | e :: rest =>
    if e.index = index ∧ e.price = price then { e with wh := e.wh + wh } :: rest
    else e :: addToKey index price wh rest

/-- Adds energy to the last entry (R121). -/
def addToLast (wh : Nat) : List BandEntry → List BandEntry
  | [] => []
  | [e] => [{ e with wh := e.wh + wh }]
  | e :: f :: rest => e :: addToLast wh (f :: rest)

/-- The entry list has an entry with a key (R121). -/
def hasKey (index price : Nat) (l : List BandEntry) : Bool :=
  l.any fun e => e.index == index && e.price == price

/-- The rest of an increment is filed under a band (R121): the list after it, and whether it was merged into the last
entry. -/
def fileRest (index : Nat) (band : Band) (rest : Nat) (l : List BandEntry) : List BandEntry × Bool :=
  if rest = 0 then (l, false)
  else if hasKey index band.price l then (addToKey index band.price rest l, false)
  else if l.length < Config.bandEntrySize then (l ++ [⟨index, band.price, band.peak, rest⟩], false)
  else (addToLast rest l, true)

/-- A session takes an increment: the metered total, the credit, and the band of the lookup (R119 to R121). -/
def Session.takeIncrement (inc : Nat) (lookup : Nat × Band) (x : Session) : Session :=
  let free := min inc x.creditLeft
  let filed := fileRest lookup.1 lookup.2 (inc - free) x.bands
  { x with
    metered := x.metered + inc
    free := x.free + free
    creditLeft := x.creditLeft - free
    bands := filed.1
    flags := { x.flags with tariffMerged := x.flags.tariffMerged || filed.2 } }

/-- A reading reaches a session (R119): below the base METER_BACK, else the limited increment, CLAMPED where a limit
cut it; the base becomes the reading. -/
def Session.takeReading (reading dt connectorMax : Nat) (lookup : Nat × Band) (x : Session) : Session :=
  if reading < x.base then
    { x with base := reading, flags := { x.flags with meterBack := true } }
  else
    let raw := rawIncrement x.base reading connectorMax dt
    let inc := min raw (Config.maxWord - x.metered)
    let clamped := decide (raw < reading - x.base ∨ inc < raw)
    Session.takeIncrement inc lookup
      { x with base := reading, flags := { x.flags with clamped := x.flags.clamped || clamped } }

/-- BT passes a reading to a bay's session (R52, R54, R122). -/
def State.passReading (session : Option Nat) (reading dt connectorMax : Nat) (s : State) : State :=
  match session with
  | none => s
  | some n => s.updSession n (Session.takeReading reading dt connectorMax s.lookup)

/-! ### Building a receipt (R143 to R147) -/

/-- A band entry priced on its own, rounded half up to a cent (R144). -/
def priceEntry (e : BandEntry) : PricedEntry :=
  ⟨e.index, e.price, e.peak, e.wh, (e.wh * e.price + 5000) / 10000⟩

/-- The receipt of a closed session (R143, R147). -/
def State.receiptOf (s : State) (x : Session) : Receipt where
  number := s.rq.nextReceipt
  session := x.number
  bay := x.bay
  start := x.start
  stop := x.stop
  cause := x.cause
  total := x.free + total (x.bands.map (·.wh))
  free := x.free
  voucher := x.voucher
  creditGranted := x.creditGranted
  entries := x.bands.map priceEntry
  charge := total ((x.bands.map priceEntry).map (·.cents))
  flags := x.flags
  tillReleased := x.voucher.isSome && s.rq.tillReleased
  owedNetwork := true
  owedTill := x.voucher.isSome && !s.rq.tillReleased

/-- The receipt joins the queue's tail and the next receipt number advances, or is exhausted (R145, R146). -/
def State.buildReceipt (x : Session) (s : State) : State :=
  { s with rq := { s.rq with
    receipts := s.rq.receipts ++ [s.receiptOf x]
    nextReceipt := if s.rq.nextReceipt = Config.maxWord then s.rq.nextReceipt else s.rq.nextReceipt + 1
    exhausted := s.rq.exhausted || decide (s.rq.nextReceipt = Config.maxWord) } }

/-- A session's record leaves the table (R114). -/
def State.dropSession (n : Nat) (s : State) : State :=
  { s with st := { s.st with sessions := s.st.sessions.filter fun x => decide (x.number ≠ n) } }

/-- A session is receipted: its receipt is built, its record leaves the table, and the freed slot admits the head of the
Slot Wait List (R125, R126, R118). -/
def State.receiptSession (n : Nat) (s : State) : State :=
  match s.session n with
  | none => s
  | some x => ((s.buildReceipt x).dropSession n).admitHead

/-- A closing session asks the Receipt Queue for a place (R125). -/
def State.askPlace (n : Nat) (s : State) : State :=
  if s.hasRoom then s.receiptSession n
  else
    (s.updSession n fun x => { x with state := .pendingReceipt }) |> fun s1 =>
      { s1 with st := { s1.st with pendingOrder := s1.st.pendingOrder ++ [n] } }

/-- One freed place is handed to the Session Table: the oldest pending session is receipted into it (R126), if the queue
has a place to offer (R145). -/
def State.fillPlace (s : State) : State :=
  if s.hasRoom then
    match s.st.pendingOrder with
    | [] => s
    | n :: rest => State.receiptSession n { s with st := { s.st with pendingOrder := rest } }
  else s

/-- Freed places are handed over one after the other (R126, R146). -/
def State.fillPlaces : Nat → State → State
  | 0, s => s
  | k + 1, s => State.fillPlaces k s.fillPlace

/-! ### Closing (R124) -/

/-- A session's record when it closes (R124, step 1). -/
def Session.close (stamp : Stamp) (clockSet : Bool) (cause : CloseCause) (x : Session) : Session :=
  { x with
    stop := some stamp
    cause := some cause
    flags := { x.flags with
      clockUnset := x.flags.clockUnset || !clockSet
      incomplete := x.flags.incomplete || decide (cause = .abandoned) } }

/-- The Voucher List removes the voucher that a closing session names (R124, step 3; R139). -/
def State.dropVoucher (v : Option Nat) (s : State) : State :=
  match v with
  | none => s
  | some n => { s with vl := { vouchers := s.vl.vouchers.filter fun x => decide (x.number ≠ n) } }

/-- A bay's session closes with a cause, and the bay goes to a state (R124, R47). -/
def State.closeSession (k : Nat) (cause : CloseCause) (st : BayState) (s : State) : State :=
  let s0 := s.updBay k fun b => { b.leave st with session := none }
  match (s.bay k).bind (·.session) with
  | none => s0
  | some n =>
    let s1 := s0.updSession n (Session.close s.stamp s.tb.clockSet cause)
    (s1.dropVoucher ((s.session n).bind (·.voucher))).askPlace n

/-! ### READ SESSION (R128) -/

/-- READ SESSION's payload for a record (R128). -/
def State.sessionReply (s : State) (x : Session) : SessionReply where
  record := x
  place := (placeOf (fun y => y.number == x.number) s.st.sessions).getD 0
  pendingPlace := if x.state = .pendingReceipt then placeOf (· == x.number) s.st.pendingOrder else none
  bandKey := if x.state = .opened then some (s.lookup.1, s.lookup.2.price) else none

/-- READ SESSION of the record that holds a number, or EMPTY (R128). -/
def readNumber (n : Nat) : Handler := fun s =>
  match s.session n with
  | none => refuse .empty s
  | some x => (s, .ok, .session (s.sessionReply x))

/-- READ SESSION at the Session Table (R128). -/
def handleReadSession (body : Body SessionSelector) : Handler := fun s =>
  match body with
  | .misfit => refuse .badRequest s
  | .fields .other => refuse .badRequest s
  | .fields (.number n) => if n = 0 then refuse .badRequest s else readNumber n.toNat s
  | .fields (.bay k) =>
    if s.isKnown k.toNat then
      match (s.bay k.toNat).bind (·.session) with
      | none => refuse .empty s
      | some n => readNumber n s
    else refuse .unknownBay s

/-! ### Meanings -/

/-- READ SESSION (R128). -/
def execReadSession (p : Port) (tag : Byte) (body : Body SessionSelector) (s : State) :
    Host.Outcome State Fault Refusal :=
  .next (takeRequest [.network, .energy] p tag 0x1A (handleReadSession body) s)

end Sys2Proof.Machine
end

