-- ==== Sys2Proof/Machine/Setpoints.lean ====
section
/-! DEFINITION. Battery and Canopy Setpoint Outputs (chapter 7): the duties a round and ENTER CONFIGURE write. -/

namespace Sys2Proof.Machine

/-- The BSET duty of a battery plan (R108). -/
def bsetDuty (bchgMax bdisMax charge discharge : Nat) : Nat :=
  if 0 < charge then 500 + 500 * charge / bchgMax
  else if 0 < discharge then 500 - 500 * discharge / bdisMax
  else 500

/-- The CLIM duty of a canopy limit (R110). -/
def climDuty (exportCap canopyRated canopyLimit : Nat) : Nat :=
  if exportCap = Config.maxPower then 1000
  else if canopyRated = 0 then 1000
  else min 1000 (1000 * canopyLimit / canopyRated)

/-- A write stores an output's next duty, replacing one already stored (R107). -/
def Output.write (d : Nat) (o : Output) : Output :=
  { o with next := some d }

/-- The two outputs are written by one event (R107). -/
def State.writeDuties (bset clim : Nat) (s : State) : State :=
  { s with so := { bset := s.so.bset.write bset, clim := s.so.clim.write clim } }

end Sys2Proof.Machine
end

