-- ==== Sys2Proof/Machine/Allocation.lean ====
section
/-! DEFINITION. The Allocation Round (chapter 5): one event at each round tick in RUN, from the store load to the canopy
limit; the stale check of the tick (R57); and READ SITE (R90). -/

namespace Sys2Proof.Machine

/-! ### Staleness (R57) -/

/-- An ACTIVE bay whose last report is older than the report limit, at this moment (R57). -/
def State.isOverAge (s : State) (b : BayRec) : Bool :=
  s.isKnown b.number && decide (b.state = .active) &&
    decide (s.cfg.reportLimit * 1000 < elapsed s.tb.ms b.lastReport)

/-- Every bay record changed by a function. -/
def State.mapBays (f : BayRec → BayRec) (s : State) : State :=
  { s with bt := { s.bt with bays := s.bt.bays.map f } }

/-- BT marks every stale bay at a round tick (R57). -/
def State.markStale (s : State) : State :=
  s.mapBays fun b => if s.isOverAge b then { b with stale := true } else b

/-- BT's check of one bay (R57). -/
def State.markStaleBay (k : Nat) (s : State) : State :=
  s.updBay k fun b => if s.isOverAge b then { b with stale := true } else b

/-! ### Store load and headroom (R69 to R71) -/

/-- An ACTIVE bay that is not stale. -/
def BayRec.isFresh (b : BayRec) : Bool :=
  decide (b.state = .active) && !b.stale

/-- A stale ACTIVE bay. -/
def BayRec.isStale (b : BayRec) : Bool :=
  decide (b.state = .active) && b.stale

/-- A bay's term of the charger sum (R69). -/
def State.csumTerm (s : State) (b : BayRec) : Nat :=
  if b.isFresh then b.measured
  else if b.isStale || decide (b.state = .fallback) then s.committed b.number
  else 0

/-- The charger sum Csum over the in-service bays (R69). -/
def State.csum (s : State) : Nat :=
  total (s.inServiceBays.map s.csumTerm)

/-- The store load estimate L (R69). -/
def State.loadEstimate (s : State) : Nat :=
  clampPower ((s.estimate .gridIn : Int) - s.estimate .gridOut + s.estimate .canopy + s.estimate .battOut -
    s.estimate .battIn - s.csum)

/-- The store load history with an estimate appended (R70). -/
def appendLoad (h : List Nat) (l : Nat) : List Nat :=
  (if h.length < Config.loadHistorySize then h else h.drop 1) ++ [l]

/-- The greatest entry of a history (R70). -/
def greatest (h : List Nat) : Nat :=
  h.foldr max 0

/-! ### Candidates and charger demand (R72 to R74) -/

/-- A candidate of a round: its bay, its demand, and whether it is of the SHOPPER class (R80). -/
structure Candidate where
  bay : Nat
  d : Nat
  shopper : Bool
deriving DecidableEq, Repr

/-- A bay's demand: the lesser of its vehicle request and its bay max (R72). -/
def State.demand (s : State) (b : BayRec) : Nat :=
  min b.request (s.bayMax b)

/-- The in-service bays with an OPEN session bound to them, each with its session, in admission order (R115). -/
def State.boundBays (s : State) : List (BayRec × Session) :=
  s.openSessions.filterMap fun x =>
    (s.inServiceBays.find? fun b => b.number == x.bay && b.session == some x.number).map (·, x)

/-- The candidates of a round in admission order: ACTIVE, not stale, with a demand of at least the bay min (R72, R80). -/
def State.candidates (s : State) : List Candidate :=
  (s.boundBays.filter fun y => y.1.isFresh && decide (s.cfg.bayMin ≤ s.demand y.1)).map fun y =>
    ⟨y.1.number, s.demand y.1, decide (0 < y.2.creditLeft ∨ 0 < y.1.promo)⟩

/-- A bay's term of the fixed reservation (R73). -/
def State.rfixTerm (s : State) (b : BayRec) : Nat :=
  if b.isStale then (s.grant b.number).g
  else if b.state = .fallback then s.committed b.number
  else 0

/-- The fixed reservation R_fix (R73, R74). -/
def State.rfix (s : State) : Nat :=
  if s.isPresent .network then total (s.inServiceBays.map s.rfixTerm) else s.committedSum

/-- The charger demand Dc (R73, R74). -/
def State.chargerDemand (s : State) : Nat :=
  if s.isPresent .network then total (s.candidates.map (·.d)) + s.rfix else s.committedSum

/-- The stale ACTIVE bays in admission order, latest first, with their issued grants (R79). -/
def State.staleBays (s : State) : List (Nat × Nat) :=
  ((s.boundBays.filter fun y => y.1.isStale).map fun y => (y.1.number, (s.grant y.1.number).g)).reverse

/-- The sum of the issued grants in a list of stale bays (R79). -/
def staleSum (l : List (Nat × Nat)) : Nat :=
  total (l.map (·.2))

/-- R_stale: the issued grants of the stale ACTIVE bays (R79). -/
def State.rstale (s : State) : Nat :=
  total (s.inServiceBays.map fun b => if b.isStale then (s.grant b.number).g else 0)

/-- The stale bays that stay frozen (R79): released from the latest admitted on, until the issued grants of the rest sum to
Cb or less. -/
def frozen (cb : Nat) : List (Nat × Nat) → List (Nat × Nat)
  | [] => []
  | x :: rest => if staleSum (x :: rest) ≤ cb then x :: rest else frozen cb rest

/-! ### The battery plan (R75, R76) -/

/-- The round asks for a band lookup (R75). -/
def State.asksBand (s : State) : Bool :=
  decide (s.mi.soc < s.ls.active.socCeil) && !s.mi.bfull.isAsserted

/-- The planned charge (R75). -/
def State.planCharge (s : State) (h : Int) (canopy loadUsed dc : Nat) : Nat :=
  if s.asksBand then
    let x : Int :=
      if s.lookup.2.gridCharge && decide (s.mi.soc < s.ls.active.socTarget) then h - dc
      else min (h - dc) ((canopy : Int) - loadUsed - dc)
    min s.cfg.bchgMax x.toNat
  else 0

/-- The planned discharge (R76). -/
def State.planDischarge (s : State) (h : Int) (dc : Nat) : Nat :=
  if s.mi.soc ≤ s.ls.active.socFloor ∨ s.mi.bempty.isAsserted = true ∨ (dc : Int) ≤ h then 0
  else min s.cfg.bdisMax ((dc : Int) - h).toNat

/-! ### Sharing (R80 to R82) -/

/-- The bays that get a unit of the remainder, in turn from the rotation pointer (R82): the bay numbers at or above the
pointer first, each part ascending. -/
def unitBays (bayCount : Nat) (bays : List Nat) (pointer r : Nat) : List Nat :=
  let sorted := (List.range (bayCount + 1)).filter fun k => bays.contains k
  (sorted.filter (fun k => decide (pointer ≤ k)) ++ sorted.filter (fun k => decide (k < pointer))).take r

/-- The rotation pointer after units are handed out (R82). -/
def movePointer (bayCount pointer : Nat) (units : List Nat) : Nat :=
  match units.getLast? with
  | none => pointer
  | some k => if k = bayCount then 1 else k + 1

/-- What a class's sharing gives: the targets, the budget it leaves, and the rotation pointer. -/
structure Shared where
  targets : List (Nat × Nat)
  left : Nat
  pointer : Nat
deriving DecidableEq, Repr

/-- The sharing of a budget among the candidates of one class, in admission order (R81, R82). Each round of the loop
lets at least one candidate leave, so the number of candidates bounds it. -/
def shareClass (bayMin bayCount : Nat) : Nat → Nat → Nat → List Candidate → Shared
  | 0, b, pointer, _ => ⟨[], b, pointer⟩
  | fuel + 1, b, pointer, l =>
    if l.isEmpty then ⟨[], b, pointer⟩
    else
      let share := b / l.length
      let fit := l.filter fun x => decide (x.d ≤ share)
      if !fit.isEmpty then
        let r := shareClass bayMin bayCount fuel (b - total (fit.map (·.d))) pointer
          (l.filter fun x => !decide (x.d ≤ share))
        { r with targets := fit.map (fun x => (x.bay, x.d)) ++ r.targets }
      else if share < bayMin then
        let r := shareClass bayMin bayCount fuel b pointer l.dropLast
        { r with targets := (l.getLast?.toList.map fun x => (x.bay, 0)) ++ r.targets }
      else
        let units := unitBays bayCount (l.map (·.bay)) pointer (b - l.length * share)
        ⟨l.map fun x => (x.bay, if units.contains x.bay then share + 1 else share), 0,
          movePointer bayCount pointer units⟩

/-- The sharing of the free budget: the SHOPPER class first, then the STANDARD class with what it leaves (R80). -/
def shareBudget (bayMin bayCount cfree pointer : Nat) (l : List Candidate) : Shared :=
  let shoppers := l.filter (·.shopper)
  let standards := l.filter fun x => !x.shopper
  let a := shareClass bayMin bayCount shoppers.length cfree pointer shoppers
  let b := shareClass bayMin bayCount standards.length a.left a.pointer standards
  ⟨a.targets ++ b.targets, b.left, b.pointer⟩

/-! ### Targets, hold counts and promotion (R83 to R85) -/

/-- The target of an in-service bay (R83): the sharing's for a candidate, the issued grant for a frozen stale bay, 0 for
any other. -/
def State.targetFor (s : State) (shared frozenBays : List (Nat × Nat)) (b : BayRec) : Nat :=
  match targetOf shared b.number with
  | some t => t
  | none => if frozenBays.any fun x => x.1 == b.number then (s.grant b.number).g else 0

/-- A candidate's hold count and promotion rounds left after a round (R84, R85). -/
def BayRec.age (agingLimit promotionLength target : Nat) (b : BayRec) : BayRec :=
  let promo := b.promo - 1
  let hold := if target = 0 then min 255 (b.hold + 1) else 0
  if target = 0 ∧ hold = agingLimit then { b with hold := 0, promo := promotionLength }
  else { b with hold := hold, promo := promo }

/-- The update of every candidate's bay record (R84, R85). -/
def State.ageBays (shared : List (Nat × Nat)) (s : State) : State :=
  s.mapBays fun b =>
    match targetOf shared b.number with
    | some t => b.age s.cfg.agingLimit s.cfg.promotionLength t
    | none => b

/-! ### The round (R67 to R89) -/

/-- The figures of a round before its hand-off: all formed from the state as the tick has left the blocks. -/
structure RoundFigures where
  load : Nat
  history : List Nat
  loadUsed : Nat
  allowance : Nat
  headroom : Int
  rfix : Nat
  dc : Nat
  charge : Nat
  discharge : Nat
  cb : Nat
  cfree : Nat
  shortfall : Nat
  candidates : List Candidate
  shared : Shared
  targets : List (Nat × Nat)
deriving DecidableEq, Repr

/-- The charger budget Cb (R77). -/
def chargerBudget (h : Int) (charge discharge : Nat) : Nat :=
  clampPower (h + discharge - charge)

/-- The figures of a round (R69 to R83). With port N LAPSED there are no candidates, no sharing and no targets (R74). -/
def State.figures (s : State) : RoundFigures :=
  let load := s.loadEstimate
  let history := appendLoad s.al.loadHistory load
  let loadUsed := greatest history
  let allowance := s.allowance
  let h : Int := (allowance : Int) + s.estimate .canopy - loadUsed - s.ls.active.storeMargin
  let rfix := s.rfix
  let dc := s.chargerDemand
  let charge := s.planCharge h (s.estimate .canopy) loadUsed dc
  let discharge := s.planDischarge h dc
  let cb := chargerBudget h charge discharge
  let cfree := cb - rfix
  let cands := if s.isPresent .network then s.candidates else []
  let shared := shareBudget s.cfg.bayMin s.cfg.bayCount cfree s.al.rotation cands
  { load := load
    history := history
    loadUsed := loadUsed
    allowance := allowance
    headroom := h
    rfix := rfix
    dc := dc
    charge := charge
    discharge := discharge
    cb := cb
    cfree := cfree
    shortfall := clampPower (-(h + discharge))
    candidates := cands
    shared := shared
    targets := if s.isPresent .network then
      s.inServiceBays.map fun b => (b.number, s.targetFor shared.targets (frozen cb s.staleBays) b)
      else [] }

/-- The canopy limit (R87): L, the committed sum after the issue, the planned charge and the export cap. -/
def canopyLimit (load sumC charge exportCap : Nat) : Nat :=
  satPower (load + sumC + charge + exportCap)

/-- The record of a round (R89): the state it read, its figures, and the committed sum after the issue. A bound line is
recorded with its accepted state, unknown included, though the plan counts unknown as deasserted (R30): DESIGN CHOICE
(log 24). -/
def roundRecord (s : State) (f : RoundFigures) (sumC : Nat) : RoundResults where
  roundNumber := s.al.roundNumber + 1
  network := (s.port .network).presence
  gin := s.estimate .gridIn
  gout := s.estimate .gridOut
  canopy := s.estimate .canopy
  bin := s.estimate .battIn
  bout := s.estimate .battOut
  csum := s.csum
  load := f.load
  history := f.history
  loadUsed := f.loadUsed
  allowance := f.allowance
  margin := s.ls.active.storeMargin
  headroom := f.headroom
  band := if s.asksBand then some (s.lookup.1, s.lookup.2.gridCharge) else none
  soc := s.mi.soc
  bfull := s.mi.bfull.accepted
  bempty := s.mi.bempty.accepted
  shoppers := (f.candidates.filter (·.shopper)).length
  standards := (f.candidates.filter fun x => !x.shopper).length
  rfix := f.rfix
  rstale := s.rstale
  dc := f.dc
  charge := f.charge
  discharge := f.discharge
  cb := f.cb
  cfree := f.cfree
  shortfall := f.shortfall
  canopyLimit := canopyLimit f.load sumC f.charge s.ls.active.exportCap
  sumC := sumC
  rotation := f.shared.pointer
  targets := f.targets

/-- STORE_OVERLOAD is raised when the headroom and the discharge leave a shortfall (R78); its round number is the
round's own, the count after it (log 11). -/
def State.reportShortfall (f : RoundFigures) (s : State) : State :=
  if f.headroom + f.discharge < 0 then
    s.raise .energy .storeOverload (.num f.shortfall) (.num (s.al.roundNumber + 1).toNat)
  else s

/-- The hand-off of the targets to the Grant Table, with port N PRESENT (R86). -/
def State.handTargets (f : RoundFigures) (s : State) : State :=
  if s.isPresent .network then s.issueTargets f.targets f.cb else s

/-- The duties a round writes (R108, R110). -/
def State.roundDuties (f : RoundFigures) (limit : Nat) (s : State) : State :=
  s.writeDuties (bsetDuty s.cfg.bchgMax s.cfg.bdisMax f.charge f.discharge)
    (climDuty s.ls.active.exportCap s.cfg.canopyRated limit)

/-- The Allocator records the round (R89). -/
def State.recordRound (r : RoundResults) (s : State) : State :=
  { s with al :=
    { loadHistory := r.history
      rotation := r.rotation
      roundNumber := r.roundNumber
      results := some r } }

/-- The allocation round, one event (R67). -/
def State.round (s : State) : State :=
  let f := s.figures
  let s1 := ((s.reportShortfall f).ageBays f.shared.targets).handTargets f
  let r := roundRecord s f s1.committedSum
  (s1.roundDuties f r.canopyLimit).recordRound r

/-- A round tick (R4, R67): the Limit Sets, the Demand Guard and the Bay Table act before the round reads them. -/
def State.tick (s : State) : State :=
  s.comeToTick.tickLimits.tickGuard.markStale.round.scheduleNext

/-! ### READ SITE (R14, R90) -/

/-- READ SITE's payload (R14, R90). -/
def State.siteReply (s : State) : SiteReply where
  monoMin := s.tb.monoMin
  minuteOfDay := s.tb.minuteOfDay
  clockSeconds := s.tb.clockSeconds
  clockSet := s.tb.clockSet
  roundPeriod := s.cfg.roundPeriod
  source := s.ls.source
  emPresent := s.ls.em.isSome
  pendWaiting := s.ls.pend.waiting
  pendImportCap := s.ls.pend.importCap.isSome
  pendExportCap := s.ls.pend.exportCap.isSome
  pendDemandLimit := s.ls.pend.demandLimit.isSome
  pendStoreMargin := s.ls.pend.storeMargin.isSome
  pendSocFloor := s.ls.pend.socFloor.isSome
  pendSocCeil := s.ls.pend.socCeil.isSome
  pendSocTarget := s.ls.pend.socTarget.isSome
  pendTariff := s.ls.pend.tariff.isSome
  importCap := s.ls.active.importCap
  exportCap := s.ls.active.exportCap
  demandLimit := s.ls.active.demandLimit
  storeMargin := s.ls.active.storeMargin
  socFloor := s.ls.active.socFloor
  socCeil := s.ls.active.socCeil
  socTarget := s.ls.active.socTarget
  bandCount := s.ls.active.tariff.length
  bandIndex := s.lookup.1
  site := s.site
  results := s.al.results
  committedSum := s.committedSum
  overcommit := s.overcommitted
  network := (s.port .network).presence
  vacant := s.countBays .vacant
  waiting := s.countBays .waiting
  active := s.countBays .active
  done := s.countBays .done
  fallback := s.countBays .fallback
  outOfService := s.countBays .outOfService
  slotWaitLength := s.bt.slotWait.length
  soc := s.mi.soc
  batteryCapacity := s.cfg.batteryCapacity
  socClipped := s.mi.socClipped

/-- READ SITE (R90): it reports SOC_CLIPPED and clears it (R25). -/
def handleReadSite (payload : List Byte) : Handler :=
  bareRequest payload fun s => ({ s with mi := { s.mi with socClipped := false } }, .ok, .site s.siteReply)

/-! ### Meanings -/

/-- ROUND_TICK (R4): taken when it is due, or together with the period end that brings the counter to it (log 2). -/
def execRoundTick (s : State) : Host.Outcome State Fault Refusal :=
  .next (unlessHeld (fun s => if s.tickDue || s.tickComing then s.tick else s) s)

/-- STALE_MARK (R57): the check of one bay that a due round tick makes, taken before the round. -/
def execStaleMark (k : Nat) (s : State) : Host.Outcome State Fault Refusal :=
  .next (unlessHeld (fun s => if s.tickDue then s.markStaleBay k else s) s)

/-- READ SITE (R90). -/
def execReadSite (p : Port) (tag : Byte) (payload : List Byte) (s : State) : Host.Outcome State Fault Refusal :=
  .next (takeRequest [.energy] p tag 0x17 (handleReadSite payload) s)

end Sys2Proof.Machine
end

