-- ==== Sys2Proof/Machine/Bays.lean ====
section
/-! DEFINITION. Bays (chapter 4): BAY REPORTS, SET BAY SERVICE, END SESSION, the lapse treatment, abandonment and
READ BAY. -/

namespace Sys2Proof.Machine

/-! ### Bay reports (R48 to R54) -/

/-- The refresh of a bay's record by a taken entry (R49, steps 2 and 3). -/
def BayRec.refresh (now : Word) (x : ReportEntry) (b : BayRec) : BayRec :=
  { b with
    plugged := x.plugged
    request := x.request
    measured := x.measured
    connectorMax := x.connectorMax
    lastReading := x.reading
    lastReport := now
    stale := false }

/-- A bay joins the tail of the Slot Wait List (R50, R55). -/
def State.joinWait (k : Nat) (s : State) : State :=
  { s with bt := { s.bt with slotWait := s.bt.slotWait ++ [k] } }

/-- A bay leaves the Slot Wait List from wherever it stands (R51, R55, R58). -/
def State.leaveWait (k : Nat) (s : State) : State :=
  { s with bt := { s.bt with slotWait := s.bt.slotWait.filter fun j => decide (j ≠ k) } }

/-- A bay takes a state that names no session (R47). -/
def State.setBayState (k : Nat) (st : BayState) (s : State) : State :=
  s.updBay k (BayRec.leave st)

/-- The state action of an entry for a bay that charges (R52), with the pass of the reading. -/
def State.reportCharging (b : BayRec) (x : ReportEntry) (dt : Nat) (s : State) : State :=
  let s1 := s.passReading b.session x.reading dt x.connectorMax
  if x.plugged then s1 else s1.closeSession x.bay .unplugged .vacant

/-- The state action of an entry, by the state the entry found the bay in (R50 to R54). -/
def State.reportAction (b : BayRec) (x : ReportEntry) (dt : Nat) (s : State) : State :=
  match b.state with
  | .vacant =>
    if x.plugged then
      if s.hasSlot then s.openSession x.bay x.reading .active none
      else (s.setBayState x.bay .waiting).joinWait x.bay
    else s
  | .waiting => if x.plugged then s else (s.leaveWait x.bay).setBayState x.bay .vacant
  | .active => s.reportCharging b x dt
  | .done => if x.plugged then s else s.setBayState x.bay .vacant
  | .fallback => (s.updBay x.bay (BayRec.leave .active)).reportCharging b x dt
  | .outOfService => s

/-- The refresh of an entry (R49, steps 2 to 4): the record, and the grant that the new connector cannot carry. -/
def State.refreshBay (b : BayRec) (x : ReportEntry) (s : State) : State :=
  let b1 := b.refresh s.tb.ms x
  let s1 := s.updBay x.bay (BayRec.refresh s.tb.ms x)
  if s.inService b then s1.lowerByReport x.bay (s1.bayMax b1) else s1

/-- One entry of a taken BAY REPORTS request (R49). -/
def State.takeEntry (s : State) (x : ReportEntry) : State :=
  match s.bay x.bay with
  | none => s
  | some b => (s.refreshBay b x).reportAction b x (elapsed s.tb.ms b.lastReport)

/-- One entry's response (R48): the bay's state and session after that entry. -/
def State.entryReply (s : State) (k : Nat) : ReportReply :=
  match s.bay k with
  | none => ⟨k, .vacant, none⟩
  | some b => ⟨k, b.state, b.session⟩

/-- The entries one at a time, in the order given, with their responses (R48). -/
def takeEntries : List ReportEntry → State → State × List ReportReply
  | [], s => (s, [])
  | x :: rest, s =>
    let s1 := s.takeEntry x
    let r := takeEntries rest s1
    (r.1, s1.entryReply x.bay :: r.2)

/-- BAY REPORTS at the Bay Table (R48). -/
def handleBayReports (payload : List Byte) : Handler := fun s =>
  match reportFields payload with
  | none => refuse .badRequest s
  | some l =>
    if !s.isRun then refuse .badState s
    else if !(l.all fun x => s.isKnown x.bay) then refuse .unknownBay s
    else
      let r := takeEntries l s
      (r.1, .ok, .reports r.2)

/-! ### Service and ending a session (R58 to R60) -/

/-- A bay is taken out of service (R58). -/
def State.takeOut (b : BayRec) (s : State) : State :=
  match b.state with
  | .active => (s.closeSession b.number .outOfService .outOfService).outGrant b.number
  | .fallback => (s.closeSession b.number .outOfService .outOfService).outGrant b.number
  | .waiting => ((s.leaveWait b.number).setBayState b.number .outOfService).outGrant b.number
  | .vacant => (s.setBayState b.number .outOfService).outGrant b.number
  | .done => (s.setBayState b.number .outOfService).outGrant b.number
  | .outOfService => s

/-- A bay is returned to service (R59). -/
def State.takeIn (b : BayRec) (s : State) : State :=
  match b.state with
  | .outOfService => s.setBayState b.number .vacant
  | .vacant => s
  | .waiting => s
  | .active => s
  | .done => s
  | .fallback => s

/-- The session that an OUT request closes (R58). -/
def closedByOut (b : BayRec) : Option Nat :=
  match b.state with
  | .active => b.session
  | .fallback => b.session
  | .vacant => none
  | .waiting => none
  | .done => none
  | .outOfService => none

/-- SET BAY SERVICE at the Bay Table (R58, R59). R58 gives its two refusals no order: that the payload is judged before the bay
is DESIGN CHOICE (log 30). -/
def handleSetBayService (payload : List Byte) : Handler := fun s =>
  match serviceFields payload with
  | none => refuse .badRequest s
  | some (k, choiceIn) =>
    if !s.isKnown k then refuse .unknownBay s
    else
      match s.bay k with
      | none => refuse .unknownBay s
      | some b =>
        let s1 := if choiceIn then s.takeIn b else s.takeOut b
        (s1, .ok, .service (s1.entryReply k).state (if choiceIn then none else closedByOut b))

/-- END SESSION at the Bay Table (R60). R60 gives BAD_STATE in CONFIGURE and UNKNOWN_BAY no order: that the site state is judged
first is DESIGN CHOICE (log 30). -/
def handleEndSession (payload : List Byte) : Handler := fun s =>
  match bayField payload with
  | none => refuse .badRequest s
  | some k =>
    if !s.isRun then refuse .badState s
    else if !s.isKnown k then refuse .unknownBay s
    else
      match s.bay k with
      | none => refuse .unknownBay s
      | some b =>
        if b.state = .active then
          (s.closeSession k .endSession .done, .ok, .closed b.session)
        else refuse .badState s

/-! ### The lapse treatment (R61) and abandonment (R64) -/

/-- A bay's record in the lapse treatment: an ACTIVE bay goes to FALLBACK, keeping its session (R61). -/
def BayRec.lapse (minute : Nat) (b : BayRec) : BayRec :=
  if b.state = .active then { b with state := .fallback, stale := false, fallbackStart := some minute } else b

/-- The lapse treatment at the Bay Table and the Grant Table (R61, R102). -/
def State.lapseTreatment (s : State) : State :=
  (s.mapBays (BayRec.lapse s.tb.monoMin)).lapseGrants

/-- A FALLBACK bay's time in FALLBACK exceeds the abandon limit (R64). -/
def State.isAbandoned (s : State) (b : BayRec) : Bool :=
  s.isKnown b.number && decide (b.state = .fallback) &&
    match b.fallbackStart with
    | none => false
    | some m => decide (s.cfg.abandonLimit < s.tb.monoMin - m)

/-- The bays abandoned at this minute event, in ascending bay number (R64). -/
def State.abandonedBays (s : State) : List Nat :=
  (s.bt.bays.filter s.isAbandoned).map (·.number)

/-- A bay is abandoned: its session closes ABANDONED and the bay is DONE (R64). -/
def State.abandonBay (s : State) (k : Nat) : State :=
  s.closeSession k .abandoned .done

/-- The abandonment test of a minute event in RUN (R64). -/
def State.abandon (s : State) : State :=
  if s.isRun then s.abandonedBays.foldl State.abandonBay s else s

/-! ### Presence expiry (R157, R61) -/

/-- The presence limit in milliseconds that a port's silence is compared with: a changed limit from the next millisecond
(R157). -/
def State.presenceMs (s : State) (p : Port) : Nat :=
  match p with
  | .network => s.jl.presenceN * 1000
  | .till => s.jl.presenceT * 1000
  | .energy => s.jl.presenceE * 1000

/-- A PRESENT port's silence exceeds its presence limit (R157). -/
def State.presenceDue (s : State) (p : Port) : Bool :=
  s.isPresent p &&
    match (s.port p).timer with
    | none => false
    | some t => decide (s.presenceMs p < elapsed s.tb.ms t)

/-- A port becomes LAPSED (R157, R159). -/
def State.lapsePort (p : Port) (s : State) : State :=
  s.updPort p fun x => { x with presence := .lapsed, lapseFlag := true, lapseStart := s.tb.monoMin }

/-- A presence expiry (R157): the port lapses, and port N's lapse in RUN brings the lapse treatment (R61). -/
def State.expirePresence (p : Port) (s : State) : State :=
  if s.presenceDue p then
    let s1 := s.lapsePort p
    match p with
    | .network => if s.isRun then s1.lapseTreatment else s1
    | .till => s1
    | .energy => s1
  else s

/-! ### READ BAY (R65) -/

/-- READ BAY's payload (R65). -/
def State.bayReply (s : State) (b : BayRec) : BayReply where
  number := b.number
  state := b.state
  plugged := b.plugged
  request := b.request
  measured := b.measured
  connectorMax := b.connectorMax
  lastReading := b.lastReading
  reportAge := elapsed s.tb.ms b.lastReport
  stale := b.stale
  fallback := b.fallbackStart.map fun m => (m, s.tb.monoMin - m)
  hold := b.hold
  promo := b.promo
  session := b.session
  bayMax := s.bayMax b
  bayMin := s.cfg.bayMin
  place := placeOf (· == b.number) s.bt.slotWait
  g := (s.grant b.number).g
  a := (s.grant b.number).a
  e := (s.grant b.number).e

/-- READ BAY at the Bay Table (R65). -/
def handleReadBay (payload : List Byte) : Handler := fun s =>
  match bayField payload with
  | none => refuse .badRequest s
  | some k =>
    if !s.isKnown k then refuse .unknownBay s
    else
      match s.bay k with
      | none => refuse .unknownBay s
      | some b => (s, .ok, .bay (s.bayReply b))

/-! ### Meanings -/

/-- BAY REPORTS (R48). -/
def execBayReports (p : Port) (tag : Byte) (payload : List Byte) (s : State) : Host.Outcome State Fault Refusal :=
  .next (takeRequest [.network] p tag 0x20 (handleBayReports payload) s)

/-- END SESSION (R60). -/
def execEndSession (p : Port) (tag : Byte) (payload : List Byte) (s : State) : Host.Outcome State Fault Refusal :=
  .next (takeRequest [.network] p tag 0x23 (handleEndSession payload) s)

/-- SET BAY SERVICE (R58, R59). -/
def execSetBayService (p : Port) (tag : Byte) (payload : List Byte) (s : State) : Host.Outcome State Fault Refusal :=
  .next (takeRequest [.network] p tag 0x24 (handleSetBayService payload) s)

/-- READ BAY (R65). -/
def execReadBay (p : Port) (tag : Byte) (payload : List Byte) (s : State) : Host.Outcome State Fault Refusal :=
  .next (takeRequest [.network] p tag 0x26 (handleReadBay payload) s)

/-- PRESENCE_EXPIRY (R157). -/
def execPresenceExpiry (p : Port) (s : State) : Host.Outcome State Fault Refusal :=
  .next (unlessHeld (State.expirePresence p) s)

/-- ABANDONMENT (R64). -/
def execAbandonment (s : State) : Host.Outcome State Fault Refusal :=
  .next (unlessHeld State.abandon s)

end Sys2Proof.Machine
end

