-- ==== Sys2Proof/Machine/Vouchers.lean ====
section
/-! DEFINITION. Vouchers (chapter 9): posting, claiming, expiry, withdrawal and READ VOUCHER. -/

namespace Sys2Proof.Machine

/-- The credit of a basket (R134). -/
def voucherCredit (cap rate basket : Nat) : Nat :=
  min cap (basket / 100 * rate)

/-- The record that a POST VOUCHER appends (R133, R134). -/
def State.newVoucher (s : State) (q : PostFields) : Voucher where
  number := q.number.toNat
  till := q.till.toNat
  basket := q.basket.toNat
  credit := voucherCredit s.cfg.voucherCap s.cfg.voucherRate q.basket.toNat
  posted := s.tb.monoMin
  expiry := minuteNumber (s.tb.monoMin + s.cfg.voucherValidity)
  state := .unclaimed
  session := none
  bay := none

/-- The state with one voucher's record changed. -/
def State.updVoucher (n : Nat) (f : Voucher → Voucher) (s : State) : State :=
  { s with vl := { vouchers := s.vl.vouchers.map fun v => if v.number = n then f v else v } }

/-- POST VOUCHER at the Voucher List (R133). -/
def handlePostVoucher (body : Body PostFields) : Handler := fun s =>
  match body with
  | .misfit => refuse .badRequest s
  | .fields q =>
    if q.number = 0 ∨ q.till = 0 ∨ 63 < q.till.toNat then refuse .badRequest s
    else if (s.voucher q.number.toNat).isSome then refuse .duplicate s
    else if q.basket.toNat < s.cfg.minBasket then refuse .belowMinimum s
    else if Config.voucherSize ≤ s.vl.vouchers.length then refuse .listFull s
    else
      let v := s.newVoucher q
      ({ s with vl := { vouchers := s.vl.vouchers ++ [v] } }, .ok, .posted v.credit v.expiry)

/-- A claim binds a voucher and a session (R136, R123). -/
def State.claim (v : Voucher) (k n : Nat) (s : State) : State :=
  (s.updVoucher v.number fun y => { y with state := .claimed, session := some n, bay := some k }).updSession n
    fun x => { x with voucher := some v.number, creditGranted := v.credit, creditLeft := v.credit }

/-- The session that an ACTIVE bay offers to a claim: its OPEN session, if that names no voucher (R135, check 6). -/
def State.claimable (s : State) (k : Nat) : Option Session :=
  match s.bay k with
  | none => none
  | some b =>
    if b.state = .active then
      match b.session.bind s.session with
      | none => none
      | some x => if x.voucher.isNone then some x else none
    else none

/-- CLAIM VOUCHER at the Voucher List (R135, R136). -/
def handleClaimVoucher (body : Body ClaimFields) : Handler := fun s =>
  match body with
  | .misfit => refuse .badRequest s
  | .fields q =>
    if !s.isRun then refuse .badState s
    else if !s.isKnown q.bay.toNat then refuse .unknownBay s
    else
      match s.voucher q.number.toNat with
      | none => refuse .unknownVoucher s
      | some v =>
        if v.state ≠ .unclaimed then refuse .notClaimable s
        else
          match s.claimable q.bay.toNat with
          | none => refuse .badState s
          | some x => (s.claim v q.bay.toNat x.number, .ok, .claimed x.number v.credit)

/-! ### Expiry (R137) -/

/-- A voucher expires at a minute count (R137). -/
def Voucher.isExpired (minute : Nat) (v : Voucher) : Bool :=
  decide (v.state = .unclaimed ∧ v.expiry < minute)

/-- VOUCHER_EXPIRED is raised for a removed voucher (R137). -/
def State.raiseExpired (s : State) (v : Voucher) : State :=
  s.raise .till .voucherExpired (.num v.number) (.num 0)

/-- The expiry of a minute event (R137): the removals, and one raise for each in posting order. -/
def State.expireVouchers (s : State) : State :=
  let s1 := { s with vl := { vouchers := s.vl.vouchers.filter fun v => !v.isExpired s.tb.monoMin } }
  (s.vl.vouchers.filter (Voucher.isExpired s.tb.monoMin)).foldl State.raiseExpired s1

/-! ### Withdrawal (R138) -/

/-- The free Wh of a voucher's bound session (R138). -/
def State.boundFree (s : State) (v : Voucher) : Nat :=
  ((v.session.bind s.session).map (·.free)).getD 0

/-- The bound session of a withdrawn voucher loses its credit (R123, R138). -/
def State.withdrawCredit (session : Option Nat) (s : State) : State :=
  match session with
  | none => s
  | some n => s.updSession n fun x => { x with creditLeft := 0, flags := { x.flags with withdrawn := true } }

/-- The reply to a withdrawal of a bound voucher (R138). -/
def State.withdrawnReply (s : State) (v : Voucher) : Reply :=
  .withdrawn (.withdrawn v.session v.bay (s.boundFree v))

/-- WITHDRAW VOUCHER at the Voucher List (R138). -/
def handleWithdrawVoucher (body : Body Word) : Handler := fun s =>
  match body with
  | .misfit => refuse .badRequest s
  | .fields n =>
    match s.voucher n.toNat with
    | none => refuse .unknownVoucher s
    | some v =>
      match v.state with
      | .unclaimed => (s.dropVoucher (some v.number), .ok, .withdrawn .removed)
      | .claimed =>
        ((s.updVoucher v.number fun y => { y with state := .withdrawn }).withdrawCredit v.session, .ok,
          s.withdrawnReply v)
      | .withdrawn => (s, .ok, s.withdrawnReply v)

/-! ### READ VOUCHER (R140) -/

/-- READ VOUCHER's payload (R140). -/
def State.voucherReply (s : State) (v : Voucher) : VoucherReply where
  record := v
  place := (placeOf (fun y => y.number == v.number) s.vl.vouchers).getD 0
  count := s.vl.vouchers.length
  minutesLeft := if v.state = .unclaimed then some (v.expiry + 1 - s.tb.monoMin) else none
  credit := if v.state = .unclaimed then none
    else (v.session.bind s.session).map fun x => (x.creditLeft, x.free)

/-- READ VOUCHER at the Voucher List (R140). -/
def handleReadVoucher (body : Body Word) : Handler := fun s =>
  match body with
  | .misfit => refuse .badRequest s
  | .fields n =>
    match s.voucher n.toNat with
    | none => refuse .unknownVoucher s
    | some v => (s, .ok, .voucher (s.voucherReply v))

/-! ### Meanings -/

/-- POST VOUCHER (R133). -/
def execPostVoucher (p : Port) (tag : Byte) (body : Body PostFields) (s : State) : Host.Outcome State Fault Refusal :=
  .next (takeRequest [.till] p tag 0x30 (handlePostVoucher body) s)

/-- CLAIM VOUCHER (R135). -/
def execClaimVoucher (p : Port) (tag : Byte) (body : Body ClaimFields) (s : State) : Host.Outcome State Fault Refusal :=
  .next (takeRequest [.network] p tag 0x25 (handleClaimVoucher body) s)

/-- WITHDRAW VOUCHER (R138). -/
def execWithdrawVoucher (p : Port) (tag : Byte) (body : Body Word) (s : State) : Host.Outcome State Fault Refusal :=
  .next (takeRequest [.till] p tag 0x31 (handleWithdrawVoucher body) s)

/-- READ VOUCHER (R140). -/
def execReadVoucher (p : Port) (tag : Byte) (body : Body Word) (s : State) : Host.Outcome State Fault Refusal :=
  .next (takeRequest [.till] p tag 0x32 (handleReadVoucher body) s)

/-- VOUCHER_EXPIRY (R137). -/
def execVoucherExpiry (s : State) : Host.Outcome State Fault Refusal :=
  .next (unlessHeld State.expireVouchers s)

end Sys2Proof.Machine
end

