-- ==== Sys2Proof/Machine/Receipts.lean ====
section
/-! DEFINITION. Receipts (chapter 10): PEEK RECEIPT, TAKE RECEIPT and the till hold release. The building of a receipt
stands in Machine/Sessions.lean. -/

namespace Sys2Proof.Machine

/-- A port leaves a receipt's owed set (R149). -/
def Receipt.takenBy (p : Port) (r : Receipt) : Receipt :=
  match p with
  | .network => { r with owedNetwork := false }
  | .till => { r with owedTill := false }
  | .energy => r

/-- A receipt is owed to nobody: it leaves the queue (R146). -/
def Receipt.isSettled (r : Receipt) : Bool :=
  !r.owedNetwork && !r.owedTill

/-- The receipts whose owed set is empty leave the queue, and each place so freed is handed to the Session Table in turn
(R146, R126). -/
def State.settle (s : State) : State :=
  State.fillPlaces (s.rq.receipts.filter Receipt.isSettled).length
    { s with rq := { s.rq with receipts := s.rq.receipts.filter fun r => !r.isSettled } }

/-- PEEK RECEIPT at the Receipt Queue (R148). -/
def handlePeekReceipt (p : Port) (payload : List Byte) : Handler :=
  bareRequest payload fun s =>
    match s.owed p with
    | [] => refuse .empty s
    | r :: rest => (s, .ok, .receipt (rest.length + 1) r)

/-- A port takes the receipt of a number, its oldest owed (R149). -/
def State.takeReceipt (p : Port) (n : Nat) (s : State) : State :=
  State.settle { s with rq := { s.rq with
    receipts := s.rq.receipts.map fun (r : Receipt) => if r.number = n then r.takenBy p else r } }

/-- TAKE RECEIPT at the Receipt Queue (R149). -/
def handleTakeReceipt (p : Port) (body : Body Word) : Handler := fun s =>
  match body with
  | .misfit => refuse .badRequest s
  | .fields n =>
    match s.owed p with
    | [] => (s, .outOfOrder, .oldest 0)
    | r :: _ =>
      if r.number = n.toNat then
        let s1 := s.takeReceipt p r.number
        (s1, .ok, .oldest (s1.oldestOwed p))
      else (s, .outOfOrder, .oldest r.number)

/-! ### The till hold (R150) -/

/-- A receipt at a till hold release (R150, step 2). -/
def Receipt.releaseTill (r : Receipt) : Receipt :=
  if r.owedTill then { r with owedTill := false, tillReleased := true } else r

/-- The till hold release is due: port T LAPSED for longer than the till hold, and the mark clear (R150). The till hold is
the one in force at the latest monotonic minute event, so a WRITE CONFIG releases nothing before the next. -/
def State.releaseDue (s : State) : Bool :=
  !s.isPresent .till && !s.rq.tillReleased &&
    decide (s.jl.tillHold < s.tb.monoMin - (s.port .till).lapseStart)

/-- The till hold release (R150). -/
def State.releaseTillHold (s : State) : State :=
  if s.releaseDue then
    State.settle { s with rq := { s.rq with
      tillReleased := true
      receipts := s.rq.receipts.map Receipt.releaseTill } }
  else s

/-! ### Meanings -/

/-- PEEK RECEIPT (R148). -/
def execPeekReceipt (p : Port) (tag : Byte) (payload : List Byte) (s : State) : Host.Outcome State Fault Refusal :=
  .next (takeRequest [.network, .till] p tag 0x40 (handlePeekReceipt p payload) s)

/-- TAKE RECEIPT (R149). -/
def execTakeReceipt (p : Port) (tag : Byte) (body : Body Word) (s : State) : Host.Outcome State Fault Refusal :=
  .next (takeRequest [.network, .till] p tag 0x41 (handleTakeReceipt p body) s)

/-- TILL_HOLD_RELEASE (R150). -/
def execTillHoldRelease (s : State) : Host.Outcome State Fault Refusal :=
  .next (unlessHeld State.releaseTillHold s)

end Sys2Proof.Machine
end

