-- ==== Sys2Proof/Machine/SiteConfig.lean ====
section
/-! DEFINITION. Site Configuration (chapter 12): WRITE CONFIG, READ CONFIG, and the two requests that move the site
from one state to the other. -/

namespace Sys2Proof.Machine

/-! ### The items (section 12.2) -/

/-- The SoC items' greatest value, Wh (section 12.2). -/
def maxSoc : Nat := 4000000

/-- The window length a value stores: the greatest of 300, 900 and 1800 that is not above it, or 300 (R169). -/
def windowValue (v : Nat) : Nat :=
  if v < 900 then 300 else if v < 1800 then 900 else 1800

/-- A value clamped into its item's range, in a part of n bays (section 12.2, R169). -/
def clampItem (n : Nat) (item : ConfigItem) (v : Nat) : Nat :=
  match item with
  | .bayCount => clampTo 1 n v
  | .bayMin => clampTo 10 100 v
  | .perBayCap => clampTo 10 3500 v
  | .fallbackPower => clampTo 0 220 v
  | .reportLimit => clampTo 5 120 v
  | .abandonLimit => clampTo 10 1440 v
  | .ackLimit => clampTo 2 60 v
  | .roundPeriod => clampTo 1 10 v
  | .windowLength => windowValue v
  | .agingLimit => clampTo 1 255 v
  | .promotionLength => clampTo 1 65535 v
  | .chanEnable _ => clampTo 0 1 v
  | .chanEdge _ => clampTo 0 1 v
  | .chanFilter _ => clampTo 1 8 v
  | .chanWeight _ => clampTo 1 100 v
  | .silenceLimit => clampTo 5 600 v
  | .batteryCapacity => clampTo 0 maxSoc v
  | .bchgMax => clampTo 0 Config.maxPower v
  | .bdisMax => clampTo 0 Config.maxPower v
  | .canopyRated => clampTo 0 Config.maxPower v
  | .safeImportCap => clampTo 0 Config.maxPower v
  | .safeDemand => clampTo 0 Config.maxPower v
  | .safeMargin => clampTo 0 Config.maxMargin v
  | .safeFloor => clampTo 0 maxSoc v
  | .safeCeil => clampTo 0 maxSoc v
  | .safeTarget => clampTo 0 maxSoc v
  | .presenceLimit .network => clampTo 2 60 v
  | .presenceLimit .till => clampTo 10 600 v
  | .presenceLimit .energy => clampTo 5 300 v
  | .minBasket => clampTo 100 10000000 v
  | .voucherRate => clampTo 1 1000 v
  | .voucherCap => clampTo 100 100000 v
  | .voucherValidity => clampTo 10 1440 v
  | .tillHold => clampTo 10 1440 v

/-- One channel's items changed. -/
def SiteCfg.updChan (c : Channel) (f : ChanCfg → ChanCfg) (x : SiteCfg) : SiteCfg :=
  { x with chan := x.chan.set c (f (x.chan.get c)) }

/-- A stored value replaces an item (R169). -/
def SiteCfg.store (item : ConfigItem) (v : Nat) (x : SiteCfg) : SiteCfg :=
  match item with
  | .bayCount => { x with bayCount := v }
  | .bayMin => { x with bayMin := v }
  | .perBayCap => { x with perBayCap := v }
  | .fallbackPower => { x with fallbackPower := v }
  | .reportLimit => { x with reportLimit := v }
  | .abandonLimit => { x with abandonLimit := v }
  | .ackLimit => { x with ackLimit := v }
  | .roundPeriod => { x with roundPeriod := v }
  | .windowLength => { x with windowLength := v }
  | .agingLimit => { x with agingLimit := v }
  | .promotionLength => { x with promotionLength := v }
  | .chanEnable c => x.updChan c fun y => { y with enabled := decide (v ≠ 0) }
  | .chanEdge c => x.updChan c fun y => { y with falling := decide (v ≠ 0) }
  | .chanFilter c => x.updChan c fun y => { y with filter := v }
  | .chanWeight c => x.updChan c fun y => { y with weight := v }
  | .silenceLimit => { x with silenceLimit := v }
  | .batteryCapacity => { x with batteryCapacity := v }
  | .bchgMax => { x with bchgMax := v }
  | .bdisMax => { x with bdisMax := v }
  | .canopyRated => { x with canopyRated := v }
  | .safeImportCap => { x with safeImportCap := v }
  | .safeDemand => { x with safeDemand := v }
  | .safeMargin => { x with safeMargin := v }
  | .safeFloor => { x with safeFloor := v }
  | .safeCeil => { x with safeCeil := v }
  | .safeTarget => { x with safeTarget := v }
  | .presenceLimit .network => { x with presenceN := v }
  | .presenceLimit .till => { x with presenceT := v }
  | .presenceLimit .energy => { x with presenceE := v }
  | .minBasket => { x with minBasket := v }
  | .voucherRate => { x with voucherRate := v }
  | .voucherCap => { x with voucherCap := v }
  | .voucherValidity => { x with voucherValidity := v }
  | .tillHold => { x with tillHold := v }

/-- The value of an item as WRITE CONFIG spells it: an enable or an edge is 0 or 1 (R169). -/
def SiteCfg.item (x : SiteCfg) : ConfigItem → Nat
  | .bayCount => x.bayCount
  | .bayMin => x.bayMin
  | .perBayCap => x.perBayCap
  | .fallbackPower => x.fallbackPower
  | .reportLimit => x.reportLimit
  | .abandonLimit => x.abandonLimit
  | .ackLimit => x.ackLimit
  | .roundPeriod => x.roundPeriod
  | .windowLength => x.windowLength
  | .agingLimit => x.agingLimit
  | .promotionLength => x.promotionLength
  | .chanEnable c => (x.chan.get c).enabled.toNat
  | .chanEdge c => (x.chan.get c).falling.toNat
  | .chanFilter c => (x.chan.get c).filter
  | .chanWeight c => (x.chan.get c).weight
  | .silenceLimit => x.silenceLimit
  | .batteryCapacity => x.batteryCapacity
  | .bchgMax => x.bchgMax
  | .bdisMax => x.bdisMax
  | .canopyRated => x.canopyRated
  | .safeImportCap => x.safeImportCap
  | .safeDemand => x.safeDemand
  | .safeMargin => x.safeMargin
  | .safeFloor => x.safeFloor
  | .safeCeil => x.safeCeil
  | .safeTarget => x.safeTarget
  | .presenceLimit .network => x.presenceN
  | .presenceLimit .till => x.presenceT
  | .presenceLimit .energy => x.presenceE
  | .minBasket => x.minBasket
  | .voucherRate => x.voucherRate
  | .voucherCap => x.voucherCap
  | .voucherValidity => x.voucherValidity
  | .tillHold => x.tillHold

/-! ### WRITE CONFIG (R169) -/

/-- A value within its item's encoding: an enable and an edge are 0 or 1 (R169). -/
def valueEncoded (item : ConfigItem) (v : Nat) : Bool :=
  match item with
  | .chanEnable _ => decide (v ≤ 1)
  | .chanEdge _ => decide (v ≤ 1)
  | .bayCount | .bayMin | .perBayCap | .fallbackPower | .reportLimit | .abandonLimit | .ackLimit
  | .roundPeriod | .windowLength | .agingLimit | .promotionLength | .chanFilter _ | .chanWeight _
  | .silenceLimit | .batteryCapacity | .bchgMax | .bdisMax | .canopyRated | .safeImportCap
  | .safeDemand | .safeMargin | .safeFloor | .safeCeil | .safeTarget | .presenceLimit _
  | .minBasket | .voucherRate | .voucherCap | .voucherValidity | .tillHold => true

/-- The item and the value of a pair that WRITE CONFIG takes; none refuses the request (R169, check 1). -/
def pairField (x : ConfigPair) : Option (ConfigItem × Nat) :=
  match x.item with
  | none => none
  | some item => if valueEncoded item x.value.toNat then some (item, x.value.toNat) else none

/-- The pairs of a WRITE CONFIG: none for an empty list or a pair that is refused (R169, check 1). -/
def pairFields (l : List ConfigPair) : Option (List (ConfigItem × Nat)) :=
  if l.isEmpty then none else l.mapM pairField

/-- The pairs with their values clamped (R169). -/
def clampPairs (n : Nat) (l : List (ConfigItem × Nat)) : List (ConfigItem × Nat) :=
  l.map fun x => (x.1, clampItem n x.1 x.2)

/-- The pairs applied in the order given (R169). -/
def SiteCfg.storeAll (l : List (ConfigItem × Nat)) (x : SiteCfg) : SiteCfg :=
  l.foldl (fun y p => y.store p.1 p.2) x

/-- One channel after a change of configuration (R16, R22). -/
def State.recaptured (s : State) (cfg : SiteCfg) (c : Channel) : ChannelState :=
  recapture s.tb.ms (s.chanCfg c) (cfg.chan.get c) (s.chan c)

/-- A new configuration takes effect (R169): the channels' captures (R16), and the SoC clamped to the capacity without
SOC_CLIPPED (R24). Every other block reads the configuration itself, and the limits that expiries are judged by follow at
the next millisecond and the next minute event (R20, R157, R150). A request that writes the capacity twice clamps the SoC
against the last value alone: DESIGN CHOICE (log 8). -/
def State.takeConfig (cfg : SiteCfg) (s : State) : State :=
  { s with
    cfg := cfg
    mi := { s.mi with
      chan := ⟨s.recaptured cfg .gridIn, s.recaptured cfg .gridOut, s.recaptured cfg .canopy,
        s.recaptured cfg .battIn, s.recaptured cfg .battOut⟩
      soc := min s.mi.soc cfg.batteryCapacity } }

/-- WRITE CONFIG at the configuration (R169). -/
def handleWriteConfig (body : Body (List ConfigPair)) : Handler := fun s =>
  match body with
  | .misfit => refuse .badRequest s
  | .fields l =>
    match pairFields l with
    | none => refuse .badRequest s
    | some pairs =>
      if s.isRun then refuse .badState s
      else
        let stored := clampPairs s.straps.bayCount pairs
        (s.takeConfig (s.cfg.storeAll stored), if stored = pairs then .ok else .adjusted, .written stored)

/-! ### READ CONFIG (R170) -/

/-- The five channels in the order of R23, DEDUCED for the table of section 12.2 (log 29). -/
def channelOrder : List Channel :=
  [.gridIn, .gridOut, .canopy, .battIn, .battOut]

/-- Every configuration item, in the order of the table of section 12.2: a row for each of the five lists five items. -/
def configOrder : List ConfigItem :=
  [.bayCount, .bayMin, .perBayCap, .fallbackPower, .reportLimit, .abandonLimit, .ackLimit, .roundPeriod, .windowLength,
    .agingLimit, .promotionLength] ++
  channelOrder.map .chanEnable ++ channelOrder.map .chanEdge ++ channelOrder.map .chanFilter ++
  channelOrder.map .chanWeight ++
  [.silenceLimit, .batteryCapacity, .bchgMax, .bdisMax, .canopyRated, .safeImportCap, .safeDemand, .safeMargin,
    .safeFloor, .safeCeil, .safeTarget, .presenceLimit .network, .presenceLimit .till, .presenceLimit .energy,
    .minBasket, .voucherRate, .voucherCap, .voucherValidity, .tillHold]

/-- Every item as stored, in that order (R170). -/
def SiteCfg.listed (x : SiteCfg) : List (ConfigItem × Nat) :=
  configOrder.map fun item => (item, x.item item)

/-- READ CONFIG (R170). -/
def handleReadConfig (payload : List Byte) : Handler :=
  bareRequest payload fun s => (s, .ok, .config s.cfg.listed s.straps.bayCount s.straps.speed)

/-! ### COMMIT SITE (R171) -/

/-- The first of COMMIT SITE's two checks that fails, by its detail (R171). -/
def State.commitRefusal (s : State) : Option Nat :=
  if s.cfg.safeImportCap < s.cfg.fallbackPower * s.cfg.bayCount then some 1
  else if s.cfg.canopyRated = 0 ∧ (s.cfg.chan.get .canopy).enabled = true then some 2
  else none

/-- Records above the bay count in use return to their power-up values (R45). -/
def State.freshenBays (s : State) : State :=
  s.mapBays fun b => if s.cfg.bayCount < b.number then BayRec.fresh b.number else b

/-- The Allocator at COMMIT SITE (R91). -/
def State.commitAllocator (s : State) : State :=
  { s with al :=
    { loadHistory := []
      rotation := if s.cfg.bayCount < s.al.rotation then 1 else s.al.rotation
      roundNumber := 0
      results := none } }

/-- A PRESENT port is made LAPSED at COMMIT SITE, and a LAPSED one keeps its lapse start minute (R159). -/
def State.lapsePresent (p : Port) (s : State) : State :=
  if s.isPresent p then s.lapsePort p else s

/-- What COMMIT SITE does at every block but the Station Ports (R171): in the order of reading, the bay records, the
epochs, the limit sets, the window, the Allocator, the schedule and the lapse treatment. -/
def State.commitBlocks (s : State) : State :=
  ({ s with site := .run }).freshenBays.zeroEpochs.commitLimits.openFirstWindow.commitAllocator.startSchedule.lapseTreatment

/-- The site enters RUN, one event (R171): every PRESENT port is made LAPSED (R159). -/
def State.commit (s : State) : State :=
  ((s.commitBlocks.lapsePresent .network).lapsePresent .till).lapsePresent .energy

/-- COMMIT SITE (R171). -/
def handleCommitSite (payload : List Byte) : Handler :=
  bareRequest payload fun s =>
    if s.isRun then refuse .badState s
    else
      match s.commitRefusal with
      | some d => (s, .badRequest, .commitDetail d)
      | none => (s.commit, .ok, .empty)

/-! ### ENTER CONFIGURE (R172) -/

/-- The Allocator at ENTER CONFIGURE (R91). -/
def State.clearRounds (s : State) : State :=
  { s with al := { s.al with loadHistory := [], results := none } }

/-- The site enters CONFIGURE, one event (R172, R42, R4, R91, R104, R112). -/
def State.configure (s : State) : State :=
  { s.configureCut.stopSchedule.clearRounds.clearGrants with site := .configure }.writeDuties 500 1000

/-- ENTER CONFIGURE (R172, R130). -/
def handleEnterConfigure (payload : List Byte) : Handler :=
  bareRequest payload fun s =>
    if !s.isRun then refuse .badState s
    else if s.st.sessions.isEmpty then (s.configure, .ok, .empty)
    else refuse .badState s

/-! ### Meanings -/

/-- WRITE CONFIG (R169). -/
def execWriteConfig (p : Port) (tag : Byte) (body : Body (List ConfigPair)) (s : State) :
    Host.Outcome State Fault Refusal :=
  .next (takeRequest [.energy] p tag 0x10 (handleWriteConfig body) s)

/-- READ CONFIG (R170). -/
def execReadConfig (p : Port) (tag : Byte) (payload : List Byte) (s : State) : Host.Outcome State Fault Refusal :=
  .next (takeRequest [.energy] p tag 0x11 (handleReadConfig payload) s)

/-- COMMIT SITE (R171). -/
def execCommitSite (p : Port) (tag : Byte) (payload : List Byte) (s : State) : Host.Outcome State Fault Refusal :=
  .next (takeRequest [.energy] p tag 0x12 (handleCommitSite payload) s)

/-- ENTER CONFIGURE (R172). -/
def execEnterConfigure (p : Port) (tag : Byte) (payload : List Byte) (s : State) : Host.Outcome State Fault Refusal :=
  .next (takeRequest [.energy] p tag 0x13 (handleEnterConfigure payload) s)

end Sys2Proof.Machine
end

