-- ==== Sys2Proof/Machine/Reset.lean ====
section
/-! DEFINITION. Resets and the Retained Domain (section 12.4): the power-up reset, the pin reset, the release that
decides the kind, and the failure of VBAK. -/

namespace Sys2Proof.Machine

/-! ### Assertion -/

/-- A port while a reset is asserted: the frame in progress is lost and the response is cut off (R153, R155). -/
def PortState.cutOff (x : PortState) : PortState :=
  { x with rx := Receiver.waiting, tx := none }

/-- The main supply rises: every block loses its state, and the reset is held until its release (R173). The Retained
Domain's marker and copy are written at the release. -/
def State.assertPowerUp (s : State) : State :=
  { State.powerUp s.straps 1 s.pending with held := some .powerUp, rd := s.rd }

/-- RESET is asserted: work under way is lost, receivers and responses are cut off, and next duties leave no trace
(R113, R153, R155). A power-up reset that is held stays one (R173). -/
def State.assertPin (s : State) : State :=
  { s with
    held := some (s.held.getD .pin)
    tb := { s.tb with advanceMade := false }
    so := { bset := { s.so.bset with next := none }, clim := { s.so.clim with next := none } }
    sp := ⟨s.sp.network.cutOff, s.sp.till.cutOff, s.sp.energy.cutOff⟩ }

/-! ### Release of a pin reset with valid retention -/

/-- The time base keeps its minute counts and the clock-set flag (R15); in RUN the first tick falls one round period
after the release (R4). -/
def State.restartTime (s : State) : TimeBase where
  ms := 0
  monoMin := s.tb.monoMin
  monoPhase := 0
  minuteOfDay := s.tb.minuteOfDay
  clockPhase := 0
  clockSet := s.tb.clockSet
  nextTick := if s.isRun then some (BitVec.ofNat 32 s.periodMs) else none
  advanceMade := false

/-- The metering inputs keep their pulse counts and the SoC; every capture begins again, and the bound lines are
unknown (R31). At the release the counter is 0, which the silence reference of an enabled channel takes (R16, R31); that a
disabled channel's takes it too is the model's choice, DESIGN CHOICE (log 13): R31's table gives enabled channels only. -/
def Metering.restart (x : Metering) : Metering where
  chan := ⟨ChannelState.idle x.chan.gridIn.pulses 0, ChannelState.idle x.chan.gridOut.pulses 0,
    ChannelState.idle x.chan.canopy.pulses 0, ChannelState.idle x.chan.battIn.pulses 0,
    ChannelState.idle x.chan.battOut.pulses 0⟩
  soc := x.soc
  socClipped := false
  bfull := ⟨none, none⟩
  bempty := ⟨none, none⟩

/-- A bay's record at a restart, before the lapse treatment: the last report time is the release moment, the
stale flag is clear (R66). -/
def BayRec.restart (b : BayRec) : BayRec :=
  { b with lastReport := 0, stale := false }

/-- A grant record at a restart, before the lapse treatment (R105). -/
def GrantRec.restart (x : GrantRec) : GrantRec :=
  { x with deferred := false, mismatch := none, overdue := false }

/-- The release of a pin reset with valid retention, before the lapse treatment (R173): every chapter's reset
table. -/
def State.restore (straps : Straps) (s : State) : State :=
  { s with
    jl := s.cfg.judged
    straps := straps
    held := none
    tb := s.restartTime
    mi := s.mi.restart
    dg := { s.dg with window := if s.isRun then s.dg.window else none }
    bt := { s.bt with bays := s.bt.bays.map BayRec.restart }
    al := { loadHistory := [], rotation := s.al.rotation, roundNumber := 0, results := none }
    gt := { s.gt with grants := s.gt.grants.map GrantRec.restart }
    so := Setpoints.idle
    rq := { s.rq with tillReleased := false }
    sp := StationPorts.released 2 s.tb.monoMin }

/-- The release of a pin reset with valid retention; a site retained in RUN takes the lapse treatment (R61, R66). -/
def State.restart (straps : Straps) (s : State) : State :=
  let s1 := s.restore straps
  if s.isRun then s1.lapseTreatment else s1

/-! ### The release (R173) -/

/-- The retention is valid: the marker holds, and the sampled SIZE pair equals the retained copy (R173). -/
def RetainedDomain.isValid (x : RetainedDomain) (straps : Straps) : Bool :=
  x.marker && x.size1 == straps.size1 && x.size0 == straps.size0

/-- A held reset is released, and its kind decided (R173). -/
def State.release (straps : Straps) (s : State) : State :=
  match s.held with
  | none => s
  | some .powerUp => State.powerUp straps 1 s.pending
  | some .pin => if s.rd.isValid straps then s.restart straps else State.powerUp straps 3 s.pending

/-! ### Meanings -/

/-- POWER_UP_RESET (R173): taken at any time. -/
def execPowerUpReset (s : State) : Host.Outcome State Fault Refusal :=
  .next s.assertPowerUp

/-- PIN_RESET (R173): taken at any time. -/
def execPinReset (s : State) : Host.Outcome State Fault Refusal :=
  .next s.assertPin

/-- RESET_RELEASE (R173, R168), with the strap levels sampled then: only while a reset is held. -/
def execResetRelease (size1 size0 speed : Bool) (s : State) : Host.Outcome State Fault Refusal :=
  .next (s.release ⟨size1, size0, speed⟩)

/-- VBAK_FAILURE (R173): the marker becomes invalid, whether the part is running or held in reset. -/
def execVbakFailure (s : State) : Host.Outcome State Fault Refusal :=
  .next { s with rd := { s.rd with marker := false } }

end Sys2Proof.Machine
end

