-- ==== Sys2Proof/Machine/Layout.lean ====
section
/-! DEFINITION. The bytes of a response (R156, R167): the response frame, the payloads whose layout the spec gives, and
a free function for the others (log 6). -/

namespace Sys2Proof.Machine

/-- A two-byte field, most significant byte first (R167). -/
def bytes16 (n : Nat) : List Byte :=
  [BitVec.ofNat 8 (n / 256), BitVec.ofNat 8 n]

/-- A four-byte field, most significant byte first (R167). -/
def bytes32 (n : Nat) : List Byte :=
  [BitVec.ofNat 8 (n / 16777216), BitVec.ofNat 8 (n / 65536), BitVec.ofNat 8 (n / 256), BitVec.ofNat 8 n]

/-- A five-byte field, most significant byte first (R167). -/
def bytes40 (n : Nat) : List Byte :=
  BitVec.ofNat 8 (n / 4294967296) :: bytes32 n

/-- Named bits of a byte, least significant first (R167). -/
def bitsOf : List Bool → Nat
  | [] => 0
  | b :: rest => b.toNat + 2 * bitsOf rest

/-- A byte of named bits. -/
def flagByte (l : List Bool) : Byte :=
  BitVec.ofNat 8 (bitsOf l)

/-- A byte whose bits of a mask have no meaning in R167: those bits are free (log 27). -/
def withSpare (place : Nat) (mask named : Byte) : Byte :=
  named ||| (Config.spareBits place &&& mask)

/-- The values of the status codes (R156). -/
def Status.code : Status → Nat
  | .ok => 0
  | .adjusted => 1
  | .badRequest => 2
  | .notPermitted => 3
  | .badState => 4
  | .unknownBay => 5
  | .unknownVoucher => 6
  | .duplicate => 7
  | .listFull => 8
  | .belowMinimum => 9
  | .notClaimable => 10
  | .outOfOrder => 11
  | .outOfRange => 12
  | .empty => 13

/-- The codes of the bay states (R167). -/
def BayState.code : BayState → Nat
  | .vacant => 0
  | .waiting => 1
  | .active => 2
  | .done => 3
  | .fallback => 4
  | .outOfService => 5

/-- The codes of the close causes (R167). -/
def CloseCause.code : CloseCause → Nat
  | .unplugged => 1
  | .endSession => 2
  | .outOfService => 3
  | .abandoned => 4

/-- The place of a channel in the order of R23, from 0. -/
def channelPlace : Channel → Nat
  | .gridIn => 0
  | .gridOut => 1
  | .canopy => 2
  | .battIn => 3
  | .battOut => 4

/-- The four bytes of a notice detail: a number, or the free code of a name (R167, log 6). -/
def Detail.bytes : Detail → List Byte
  | .num n => bytes32 n
  | .basis b => bytes32 (Config.basisCode (decide (b = .clock))).toNat
  | .channel c => bytes32 (Config.channelCode (channelPlace c)).toNat
  | .bound b => bytes32 (Config.boundCode (decide (b = .bfull))).toNat
  | .parts l t => bytes32 (Config.partsCode l t).toNat

/-- PING's payload (R165, R167): the part code 0C32h and the revision code 01h come first. -/
def PingReply.bytes (r : PingReply) : List Byte :=
  bytes16 0x0C32 ++ [0x01, BitVec.ofNat 8 r.bayCount, flagByte [r.speed], flagByte [decide (r.site = .run)],
    withSpare 0 0x88 (flagByte [r.presentN, r.presentT, r.presentE, false, r.lapsedN, r.lapsedT, r.lapsedE])] ++
    bytes16 r.framing ++ bytes16 r.oversize ++ bytes16 r.badFrame ++ bytes16 r.overrun

/-- READ NOTICE's payload (R162, R167). -/
def NoticeReply.bytes (r : NoticeReply) : List Byte :=
  [BitVec.ofNat 8 r.code, BitVec.ofNat 8 r.count] ++ r.a.bytes ++ r.b.bytes ++ bytes16 r.pendingSet.toNat ++
    bytes16 r.mask.toNat

/-- One entry of BAY REPORTS' response (R167). -/
def ReportReply.bytes (r : ReportReply) : List Byte :=
  [BitVec.ofNat 8 r.bay, BitVec.ofNat 8 r.state.code] ++ bytes16 (r.session.getD 0)

/-- One entry of READ GRANTS (R167). -/
def GrantReply.bytes (r : GrantReply) : List Byte :=
  BitVec.ofNat 8 (r.bay + 64 * r.deferred.toNat + 128 * r.overdue.toNat) ::
    (bytes16 r.g ++ bytes16 r.a ++ bytes16 r.lag)

/-- A receipt's band entry (R167). -/
def PricedEntry.bytes (e : PricedEntry) : List Byte :=
  withSpare 2 0x70 (BitVec.ofNat 8 (e.index + 128 * e.peak.toNat)) :: (bytes16 e.price ++ bytes32 e.wh ++ bytes40 e.cents)

/-- A stamp: the monotonic minute, then the minute-of-day (R167). -/
def Stamp.bytes (x : Stamp) : List Byte :=
  bytes32 x.mono ++ bytes16 x.dayMinute

/-- The flags byte of a receipt record (R167). -/
def Receipt.flagBits (r : Receipt) : Byte :=
  flagByte [r.flags.meterBack, r.flags.clamped, r.flags.incomplete, r.flags.tariffMerged, r.flags.clockUnset,
    r.flags.withdrawn, r.tillReleased, r.voucher.isSome]

/-- A receipt record (R167). -/
def Receipt.bytes (r : Receipt) : List Byte :=
  bytes32 r.number ++ bytes16 r.session ++
    [BitVec.ofNat 8 r.bay, BitVec.ofNat 8 ((r.cause.map CloseCause.code).getD 0)] ++
    r.start.bytes ++ (r.stop.getD r.start).bytes ++ bytes32 r.total ++ bytes32 r.free ++
    bytes32 (r.voucher.getD 0) ++ bytes32 (if r.voucher.isSome then r.creditGranted else 0) ++
    [r.flagBits, withSpare 1 0xFC (flagByte [r.owedNetwork, r.owedTill])] ++ bytes40 r.charge ++
    [BitVec.ofNat 8 r.entries.length] ++ r.entries.flatMap PricedEntry.bytes

/-- FREE VALUE (log 6). How a reply whose layout the spec does not give is spelled. -/
opaque replyBytes : Reply → List Byte

/-- The payload of such a reply: free bytes, as many as a payload length of 0 to 240 admits (R167). -/
def freePayload (r : Reply) : List Byte :=
  (replyBytes r).take Config.maxPayload

/-- The payload bytes of a reply (R167); the mask of SET NOTICE MASK is the two bytes of R163. -/
def Reply.bytes : Reply → List Byte
  | .empty => []
  | .ping r => r.bytes
  | .notice r => r.bytes
  | .reports l => BitVec.ofNat 8 l.length :: l.flatMap ReportReply.bytes
  | .grants eg ea l => bytes32 eg ++ bytes32 ea ++ (BitVec.ofNat 8 l.length :: l.flatMap GrantReply.bytes)
  | .receipt owed r => BitVec.ofNat 8 owed :: r.bytes
  | .mask m => bytes16 m.toNat
  | .written items => freePayload (.written items)
  | .config items n speed => freePayload (.config items n speed)
  | .commitDetail d => freePayload (.commitDetail d)
  | .site r => freePayload (.site r)
  | .windows r => freePayload (.windows r)
  | .channels r => freePayload (.channels r)
  | .session r => freePayload (.session r)
  | .epochs eg ea => freePayload (.epochs eg ea)
  | .closed n => freePayload (.closed n)
  | .service st n => freePayload (.service st n)
  | .claimed n credit => freePayload (.claimed n credit)
  | .bay r => freePayload (.bay r)
  | .posted credit expiry => freePayload (.posted credit expiry)
  | .withdrawn r => freePayload (.withdrawn r)
  | .voucher r => freePayload (.voucher r)
  | .oldest n => freePayload (.oldest n)

/-- The bytes of a response frame before its check byte (R156, R167): the echoed tag, the command code with its top bit
set, the status, the payload length and the payload. -/
def Response.body (r : Response) : List Byte :=
  r.tag :: (r.code ||| 0x80) :: BitVec.ofNat 8 r.status.code :: BitVec.ofNat 8 r.payload.bytes.length :: r.payload.bytes

/-- A response frame, with its check byte (R154, R167). -/
def Response.frame (r : Response) : List Byte :=
  r.body ++ [checkByte r.body]

/-- The frame that a port's transmit line carries: none is an idle line, driven high (R155). -/
def State.sending (s : State) (p : Port) : Option (List Byte) :=
  (s.port p).tx.map Response.frame

end Sys2Proof.Machine
end

