-- ==== Sys2Proof/Machine/Dispatch.lean ====
section
/-! DEFINITION. Which meaning each command has. -/

namespace Sys2Proof.Machine

/-- What a command does to the part. -/
def exec (i : Instr) (s : State) : Host.Outcome State Fault Refusal :=
  match i with
  | .ping p tag payload => Sys2Proof.Machine.execPing p tag payload s
  | .readNotice p tag payload => Sys2Proof.Machine.execReadNotice p tag payload s
  | .setNoticeMask p tag payload => Sys2Proof.Machine.execSetNoticeMask p tag payload s
  | .writeConfig p tag body => Sys2Proof.Machine.execWriteConfig p tag body s
  | .readConfig p tag payload => Sys2Proof.Machine.execReadConfig p tag payload s
  | .commitSite p tag payload => Sys2Proof.Machine.execCommitSite p tag payload s
  | .enterConfigure p tag payload => Sys2Proof.Machine.execEnterConfigure p tag payload s
  | .setLimits p tag body => Sys2Proof.Machine.execSetLimits p tag body s
  | .setTariff p tag body => Sys2Proof.Machine.execSetTariff p tag body s
  | .setClock p tag payload => Sys2Proof.Machine.execSetClock p tag payload s
  | .readSite p tag payload => Sys2Proof.Machine.execReadSite p tag payload s
  | .readWindows p tag payload => Sys2Proof.Machine.execReadWindows p tag payload s
  | .readChannels p tag payload => Sys2Proof.Machine.execReadChannels p tag payload s
  | .readSession p tag body => Sys2Proof.Machine.execReadSession p tag body s
  | .bayReports p tag payload => Sys2Proof.Machine.execBayReports p tag payload s
  | .readGrants p tag payload => Sys2Proof.Machine.execReadGrants p tag payload s
  | .ackGrants p tag payload => Sys2Proof.Machine.execAckGrants p tag payload s
  | .endSession p tag payload => Sys2Proof.Machine.execEndSession p tag payload s
  | .setBayService p tag payload => Sys2Proof.Machine.execSetBayService p tag payload s
  | .claimVoucher p tag body => Sys2Proof.Machine.execClaimVoucher p tag body s
  | .readBay p tag payload => Sys2Proof.Machine.execReadBay p tag payload s
  | .postVoucher p tag body => Sys2Proof.Machine.execPostVoucher p tag body s
  | .withdrawVoucher p tag body => Sys2Proof.Machine.execWithdrawVoucher p tag body s
  | .readVoucher p tag body => Sys2Proof.Machine.execReadVoucher p tag body s
  | .peekReceipt p tag payload => Sys2Proof.Machine.execPeekReceipt p tag payload s
  | .takeReceipt p tag body => Sys2Proof.Machine.execTakeReceipt p tag body s
  | .frameDiscard p => Sys2Proof.Machine.execFrameDiscard p s
  | .overrun p => Sys2Proof.Machine.execOverrun p s
  | .unknownCommand p tag code => Sys2Proof.Machine.execUnknownCommand p tag code s
  | .responseEnd p => Sys2Proof.Machine.execResponseEnd p s
  | .monotonicMinuteEvent => Sys2Proof.Machine.execMonotonicMinuteEvent s
  | .clockMinuteEvent => Sys2Proof.Machine.execClockMinuteEvent s
  | .roundTick => Sys2Proof.Machine.execRoundTick s
  | .staleMark bay => Sys2Proof.Machine.execStaleMark bay s
  | .periodEnd => Sys2Proof.Machine.execPeriodEnd s
  | .presenceExpiry p => Sys2Proof.Machine.execPresenceExpiry p s
  | .silenceExpiry c => Sys2Proof.Machine.execSilenceExpiry c s
  | .overdueExpiry bay => Sys2Proof.Machine.execOverdueExpiry bay s
  | .windowEnd => Sys2Proof.Machine.execWindowEnd s
  | .voucherExpiry => Sys2Proof.Machine.execVoucherExpiry s
  | .abandonment => Sys2Proof.Machine.execAbandonment s
  | .tillHoldRelease => Sys2Proof.Machine.execTillHoldRelease s
  | .pulse c => Sys2Proof.Machine.execPulse c s
  | .inactiveLevelChange c level => Sys2Proof.Machine.execInactiveLevelChange c level s
  | .boundAssertion b => Sys2Proof.Machine.execBoundAssertion b s
  | .boundDeassertion b => Sys2Proof.Machine.execBoundDeassertion b s
  | .powerUpReset => Sys2Proof.Machine.execPowerUpReset s
  | .pinReset => Sys2Proof.Machine.execPinReset s
  | .resetRelease size1 size0 speed => Sys2Proof.Machine.execResetRelease size1 size0 speed s
  | .vbakFailure => Sys2Proof.Machine.execVbakFailure s
  | .filterSample line level => Sys2Proof.Machine.execFilterSample line level s
  | .characterReceived p byte stopLow => Sys2Proof.Machine.execCharacterReceived p byte stopLow s
  | .receiverGap p => Sys2Proof.Machine.execReceiverGap p s

end Sys2Proof.Machine
end

