-- ==== Sys2Proof/Machine/Step.lean ====
section
/-! DEFINITION. One step: the part takes the command at the front of its queue (log 1). -/

namespace Sys2Proof.Machine

/-- The part takes the command at the front of the queue, with the rest waiting; on an empty queue it idles (log 1). -/
def step (s : State) : Host.Outcome State Fault Refusal :=
  match s.pending with
  | [] => .next s
  | c :: rest => exec c { s with pending := rest }

/-- The state with the command that a word spells put at the front of the queue; unchanged where the word spells
none. -/
def State.withFetchWord (s : State) (nbits w : Nat) : State :=
  match decodeTableWord nbits w with
  | none => s
  | some c => { s with pending := c :: s.pending }

end Sys2Proof.Machine
end

