-- ==== Sys2Proof/Safety.lean ====
section
/-! DEFINITION. What the claims speak of: when a port takes a request, the catalogue's columns, and the laws that
hold in every state the part can be in. -/

namespace Sys2Proof.Machine

/-- A port takes a completed frame as a request: no reset is held and no response is being sent (R155, R156). -/
def State.Ready (p : Port) (s : State) : Prop :=
  s.held = none ∧ (s.port p).tx = none

/-- The port a request came on and its tag; none for an event. -/
def requestHead : Instr → Option (Port × Byte)
  | .ping p tag _ | .readNotice p tag _ | .setNoticeMask p tag _ | .writeConfig p tag _ | .readConfig p tag _
  | .commitSite p tag _ | .enterConfigure p tag _ | .setLimits p tag _ | .setTariff p tag _ | .setClock p tag _
  | .readSite p tag _ | .readWindows p tag _ | .readChannels p tag _ | .readSession p tag _
  | .bayReports p tag _ | .readGrants p tag _ | .ackGrants p tag _ | .endSession p tag _
  | .setBayService p tag _ | .claimVoucher p tag _ | .readBay p tag _ | .postVoucher p tag _
  | .withdrawVoucher p tag _ | .readVoucher p tag _ | .peekReceipt p tag _ | .takeReceipt p tag _ => some (p, tag)
  | .frameDiscard _ | .overrun _ | .unknownCommand _ _ _ | .responseEnd _ | .monotonicMinuteEvent
  | .clockMinuteEvent | .roundTick | .staleMark _ | .periodEnd | .presenceExpiry _ | .silenceExpiry _
  | .overdueExpiry _ | .windowEnd | .voucherExpiry | .abandonment | .tillHoldRelease | .pulse _
  | .inactiveLevelChange _ _ | .boundAssertion _ | .boundDeassertion _ | .powerUpReset | .pinReset
  | .resetRelease _ _ _ | .vbakFailure | .filterSample _ _ | .characterReceived _ _ _ | .receiverGap _ => none

/-- The ports column of the request catalogue (section 11.6), by command code. -/
def cataloguePorts (code : Byte) : List Port :=
  if code = 0x01 ∨ code = 0x02 ∨ code = 0x03 then [.network, .till, .energy]
  else if code = 0x1A then [.network, .energy]
  else if code = 0x40 ∨ code = 0x41 then [.network, .till]
  else if 0x10 ≤ code ∧ code ≤ 0x19 then [.energy]
  else if 0x20 ≤ code ∧ code ≤ 0x26 then [.network]
  else if 0x30 ≤ code ∧ code ≤ 0x32 then [.till]
  else []

/-- A reset, its release or a failure of VBAK: what the part takes while a reset is held (R173). -/
def isReset : Instr → Bool
  | .powerUpReset | .pinReset | .resetRelease _ _ _ | .vbakFailure => true
  | .ping _ _ _ | .readNotice _ _ _ | .setNoticeMask _ _ _ | .writeConfig _ _ _ | .readConfig _ _ _
  | .commitSite _ _ _ | .enterConfigure _ _ _ | .setLimits _ _ _ | .setTariff _ _ _ | .setClock _ _ _
  | .readSite _ _ _ | .readWindows _ _ _ | .readChannels _ _ _ | .readSession _ _ _ | .bayReports _ _ _
  | .readGrants _ _ _ | .ackGrants _ _ _ | .endSession _ _ _ | .setBayService _ _ _ | .claimVoucher _ _ _
  | .readBay _ _ _ | .postVoucher _ _ _ | .withdrawVoucher _ _ _ | .readVoucher _ _ _ | .peekReceipt _ _ _
  | .takeReceipt _ _ _ | .frameDiscard _ | .overrun _ | .unknownCommand _ _ _ | .responseEnd _
  | .monotonicMinuteEvent | .clockMinuteEvent | .roundTick | .staleMark _ | .periodEnd | .presenceExpiry _
  | .silenceExpiry _ | .overdueExpiry _ | .windowEnd | .voucherExpiry | .abandonment | .tillHoldRelease
  | .pulse _ | .inactiveLevelChange _ _ | .boundAssertion _ | .boundDeassertion _ | .filterSample _ _
  | .characterReceived _ _ _ | .receiverGap _ => false

/-- What a report does to the grants of an in-service bay with a new bay max (R99): an issued grant above it becomes the bay
max, or 0 below the bay min, with the mismatch timing of R100 and a new epoch (R94). -/
def State.lowered (k bayMax : Nat) (s : State) : State :=
  if bayMax < (s.grant k).g then
    let v := if bayMax < s.cfg.bayMin then 0 else bayMax
    let eg := if s.gt.eg = Config.maxWord then Config.maxWord else s.gt.eg + 1
    State.raise .network .grantsChanged (.num eg) (.num 0) { s with gt := { s.gt with
      eg := eg
      grants := s.gt.grants.map fun y => if y.bay = k then
        { y with g := v, e := eg,
                 mismatch := if v = y.a then none else if y.g = y.a then some s.tb.ms else y.mismatch,
                 overdue := if v = y.a then false else y.overdue } else y } }
  else s

/-! ### Laws of the state -/

/-- The tables have one record for each of the N bays, the bay count in use lies from 1 to N (R45, R168), the
retained copy is the SIZE pair in use (R173), and in RUN the rotation pointer names a bay in use (section 5). -/
structure State.TablesOk (s : State) : Prop where
  bays : s.bt.bays.map (·.number) = List.range' 1 s.straps.bayCount
  grants : s.gt.grants.map (·.bay) = List.range' 1 s.straps.bayCount
  count : 1 ≤ s.cfg.bayCount ∧ s.cfg.bayCount ≤ s.straps.bayCount
  copy : s.rd.size1 = s.straps.size1 ∧ s.rd.size0 = s.straps.size0
  pointer : 1 ≤ s.al.rotation ∧ (s.site = .run → s.al.rotation ≤ s.cfg.bayCount)

/-- A window and a running schedule stand exactly in RUN (R4, R32); without RUN there are no round results (R89). -/
structure State.SiteOk (s : State) : Prop where
  window : s.dg.window.isSome = s.isRun
  schedule : s.tb.nextTick.isSome = s.isRun
  results : s.site = .configure → s.al.results = none

/-- The SoC lies within the capacity (R24), the duties within 1000 (R106), the histories within their sizes
(R40, R70). -/
structure State.PlantOk (s : State) : Prop where
  soc : s.mi.soc ≤ s.cfg.batteryCapacity
  bset : s.so.bset.current ≤ 1000 ∧ ∀ d, s.so.bset.next = some d → d ≤ 1000
  clim : s.so.clim.current ≤ 1000 ∧ ∀ d, s.so.clim.next = some d → d ≤ 1000
  windows : s.dg.history.length ≤ Config.historySize
  loads : s.al.loadHistory.length ≤ Config.loadHistorySize

/-- The acknowledged epoch never exceeds the grant epoch, and no bay's issue epoch exceeds it (R94). -/
structure State.EpochsOk (s : State) : Prop where
  greatest : s.gt.eg ≤ Config.maxWord
  acknowledged : s.gt.ea ≤ s.gt.eg
  issued : ∀ x ∈ s.gt.grants, x.e ≤ s.gt.eg

/-- At most 64 receipts, each owed to a port, their numbers strictly rising below the next (R145, R146). -/
structure State.ReceiptsOk (s : State) : Prop where
  size : s.rq.receipts.length ≤ Config.queueSize
  owed : ∀ r ∈ s.rq.receipts, r.owedNetwork = true ∨ r.owedTill = true
  rising : (s.rq.receipts.map (·.number)).Pairwise (· < ·)
  below : ∀ r ∈ s.rq.receipts, r.number < s.rq.nextReceipt ∨ (s.rq.exhausted = true ∧ r.number = s.rq.nextReceipt)
  next : 1 ≤ s.rq.nextReceipt ∧ s.rq.nextReceipt ≤ Config.maxWord
  last : s.rq.exhausted = true → s.rq.nextReceipt = Config.maxWord

/-- A session's energy adds up: metered Wh is free Wh plus its band entries' Wh, at most 8 entries of distinct keys
(R119), and the credit spent and left agree with the credit granted (R120). -/
structure Session.Balanced (x : Session) : Prop where
  sum : x.metered = x.free + total (x.bands.map (·.wh))
  range : x.metered ≤ Config.maxWord
  entries : x.bands.length ≤ Config.bandEntrySize
  keys : (x.bands.map fun e => (e.index, e.price)).Nodup
  spent : x.free ≤ x.creditGranted
  left : x.creditLeft = x.creditGranted - x.free ∨ (x.flags.withdrawn = true ∧ x.creditLeft = 0)
  unclaimed : x.voucher = none → x.creditGranted = 0

/-- At most N + 8 sessions with distinct numbers from 1 to 65 535, each balanced (R114, R116, R119, R120). -/
structure State.SessionsOk (s : State) : Prop where
  size : s.st.sessions.length ≤ s.sessionSlots
  distinct : (s.st.sessions.map (·.number)).Nodup
  numbers : ∀ x ∈ s.st.sessions, 1 ≤ x.number ∧ x.number ≤ 65535
  next : 1 ≤ s.st.nextSession ∧ s.st.nextSession ≤ 65535
  balanced : ∀ x ∈ s.st.sessions, x.Balanced

/-- At most 48 vouchers with distinct numbers (R132), each bound exactly while it is not UNCLAIMED (section 9.1). -/
structure State.VouchersOk (s : State) : Prop where
  size : s.vl.vouchers.length ≤ Config.voucherSize
  distinct : (s.vl.vouchers.map (·.number)).Nodup
  tills : ∀ v ∈ s.vl.vouchers, 1 ≤ v.number ∧ 1 ≤ v.till ∧ v.till ≤ 63
  bound : ∀ v ∈ s.vl.vouchers, (v.state = .unclaimed ↔ v.session = none) ∧ (v.session = none ↔ v.bay = none)

/-- Bays and OPEN sessions name each other, a bay exactly while it is ACTIVE or FALLBACK (R47, R114); the pending order
holds the PENDING_RECEIPT sessions, and only while the queue answers full (R125); the Slot Wait List holds the WAITING
bays, and only while the table is full (R55); in CONFIGURE there is no session (R130). -/
structure State.BindingsOk (s : State) : Prop where
  naming : ∀ b ∈ s.bt.bays, (b.state = .active ∨ b.state = .fallback) ↔ b.session.isSome = true
  named : ∀ b ∈ s.bt.bays, ∀ n, b.session = some n →
    ∃ x ∈ s.st.sessions, x.number = n ∧ x.state = .opened ∧ x.bay = b.number
  bound : ∀ x ∈ s.st.sessions, x.state = .opened → ∃ b ∈ s.bt.bays, b.number = x.bay ∧ b.session = some x.number
  order : s.st.pendingOrder.Nodup
  pending : ∀ n, n ∈ s.st.pendingOrder ↔ ∃ x ∈ s.st.sessions, x.number = n ∧ x.state = .pendingReceipt
  full : s.st.pendingOrder ≠ [] → s.hasRoom = false
  list : s.bt.slotWait.Nodup
  waiting : ∀ k, k ∈ s.bt.slotWait ↔ ∃ b ∈ s.bt.bays, b.number = k ∧ b.state = .waiting
  held : s.bt.slotWait ≠ [] → s.st.sessions.length = s.sessionSlots
  configure : s.site = .configure → s.st.sessions = []

/-- A set of limits is in range: caps and a demand limit of at most 65 535 (section 1.2), a margin of at most 5000 and a SoC floor,
target and ceiling in that order, in RUN within the capacity (R8, R12), and 1 to 8 bands with strictly rising starts of at
most 1439 (R9). -/
structure State.InRange (s : State) (x : LimitSet) : Prop where
  caps : x.importCap ≤ Config.maxPower ∧ x.exportCap ≤ Config.maxPower ∧ x.demandLimit ≤ Config.maxPower
  margin : x.storeMargin ≤ 5000
  order : x.socFloor ≤ x.socTarget ∧ x.socTarget ≤ x.socCeil
  capacity : s.site = .run → x.socCeil ≤ s.cfg.batteryCapacity
  bands : 1 ≤ x.tariff.length ∧ x.tariff.length ≤ 8
  rising : (x.tariff.map (·.start)).Pairwise (· < ·)
  fields : ∀ b ∈ x.tariff, b.start ≤ 1439 ∧ b.price ≤ 65535

/-- The waiting mark is set exactly while a part is present in the Pending Set (R5), whose SoC parts are present together
(R8). The EM Set, the Safe Set, and what a take would make of the Pending Set over the Safe Set, lie in their ranges
(R8 to R10). The Active Set is a copy of the EM Set or of the Safe Set, as the active source says (R11, R12); the Safe Set
has the EM Set's tariff (R7). Every configuration item lies in its range (R169). -/
structure State.LimitsOk (s : State) : Prop where
  waiting : s.ls.pend.waiting = true ↔ s.ls.pend.hasLimits = true ∨ s.ls.pend.tariff.isSome = true
  together : s.ls.pend.socFloor.isSome = s.ls.pend.socCeil.isSome ∧ s.ls.pend.socCeil.isSome = s.ls.pend.socTarget.isSome
  pend : s.InRange (takenSet s.ls.pend s.ls.safe)
  em : ∀ x, s.ls.em = some x → s.InRange x
  safe : s.InRange s.ls.safe
  active : (s.ls.source = .em ∧ s.ls.em = some s.ls.active) ∨ (s.ls.source = .safe ∧ s.ls.active = s.ls.safe)
  tariff : s.ls.safe.tariff = safeTariff s.ls.em
  items : ∀ item, item ≠ .bayCount → clampItem s.straps.bayCount item (s.cfg.item item) = s.cfg.item item

/-- A bound voucher and an OPEN session name each other (R136, R139): the session has the voucher's bay and credit, and its
WITHDRAWN flag tells the voucher's state (R138). A session that names no voucher has not got that flag. -/
structure State.ClaimsOk (s : State) : Prop where
  claimed : ∀ v ∈ s.vl.vouchers, ∀ n, v.session = some n →
    ∃ x ∈ s.st.sessions, x.number = n ∧ x.state = .opened ∧ x.voucher = some v.number ∧ v.bay = some x.bay ∧
      x.creditGranted = v.credit ∧ x.flags.withdrawn = decide (v.state = .withdrawn)
  named : ∀ x ∈ s.st.sessions, x.state = .opened → ∀ m, x.voucher = some m →
    ∃ v ∈ s.vl.vouchers, v.number = m ∧ v.session = some x.number
  unnamed : ∀ x ∈ s.st.sessions, x.voucher = none → x.flags.withdrawn = false

/-- A bay's grant record: an issued grant is 0 or lies from the bay min to the bay max (R95), and a bay out of service
or out of use has none (R93). -/
structure State.GrantOk (s : State) (b : BayRec) : Prop where
  range : (s.grant b.number).g = 0 ∨
    (s.cfg.bayMin ≤ (s.grant b.number).g ∧ (s.grant b.number).g ≤ s.bayMax b)
  idle : s.inService b = false → (s.grant b.number).g = 0 ∧ (s.grant b.number).a = 0

/-- The issued grants sum to no more than the budget of the latest round; without a round, in CONFIGURE and during a
network lapse every issued grant is 0 (R95), and in CONFIGURE every acknowledged grant too (R104). -/
structure State.GrantsOk (s : State) : Prop where
  each : ∀ b ∈ s.bt.bays, s.GrantOk b
  budget : ∀ r, s.al.results = some r → total (s.gt.grants.map (·.g)) ≤ r.cb
  before : s.al.results = none → ∀ x ∈ s.gt.grants, x.g = 0
  lapsed : s.isPresent .network = false → ∀ x ∈ s.gt.grants, x.g = 0
  configure : s.site = .configure → ∀ x ∈ s.gt.grants, x.g = 0 ∧ x.a = 0

end Sys2Proof.Machine
end

