-- ==== Sys2Proof/Certificates/Slice0/Obligations.lean ====
section
/-! DEFINITION. The statements for the provers, from the numbered rules of the spec: requests and resets, configuration,
limits and reads, bays, sessions and receipts, grants, vouchers, events, the round, frames, and the laws every step keeps. -/

section Statements

open Sys2Proof Sys2Proof.Machine
/-! ### The machine and its requests -/

/-- The part takes the command at the front of its queue with the rest waiting, and idles on an empty queue. The queue
is the model's choice (log 1). -/
def Obligations.StepTakesFront : Prop :=
  (∀ (c : Instr) (rest : List Instr) (s : State), step { s with pending := c :: rest } = exec c { s with pending := rest }) ∧
  ∀ s : State, s.pending = [] → step s = .next s

/-- What reset leaves, from each chapter's reset table (R15, R31, R44, R66, R92, R105, R113, R131, R142, R152, R166) and from
R173: a valid marker and the sampled SIZE pair. The straps, and that no reset is held, are the model's choice (log 10), and with
the straps the bay count; so are the empty queue and the mark of an advance made (log 1, log 2), and the silence reference 0 of
a disabled channel (log 13), of which R31 speaks for an enabled one alone. -/
def Obligations.ResetLeavesPowerUpValues : Prop :=
  State.reset.site = .configure ∧ State.reset.cfg = SiteCfg.default State.reset.straps.bayCount ∧
  State.reset.jl = State.reset.cfg.judged ∧
  State.reset.held = none ∧ State.reset.pending = [] ∧
  State.reset.rd = ⟨true, State.reset.straps.size1, State.reset.straps.size0⟩ ∧
  State.reset.tb.ms = 0 ∧ State.reset.tb.monoMin = 0 ∧ State.reset.tb.monoPhase = 0 ∧
  State.reset.tb.minuteOfDay = 0 ∧ State.reset.tb.clockPhase = 0 ∧ State.reset.tb.clockSet = false ∧
  State.reset.tb.nextTick = none ∧ State.reset.tb.advanceMade = false ∧
  State.reset.ls.pend = PendingSet.empty ∧ State.reset.ls.em = none ∧ State.reset.ls.source = .safe ∧
  State.reset.ls.safe = buildSafe State.reset.cfg none ∧ State.reset.ls.active = State.reset.ls.safe ∧
  State.reset.mi.soc = 0 ∧ State.reset.mi.socClipped = false ∧
  State.reset.mi.bfull = ⟨none, none⟩ ∧ State.reset.mi.bempty = ⟨none, none⟩ ∧
  (∀ c, State.reset.chan c = ChannelState.idle 0 0) ∧
  State.reset.dg.window = none ∧ State.reset.dg.history = [] ∧
  (∀ b ∈ State.reset.bt.bays, b = BayRec.fresh b.number) ∧ State.reset.bt.slotWait = [] ∧
  State.reset.al = { loadHistory := [], rotation := 1, roundNumber := 0, results := none } ∧
  (∀ x ∈ State.reset.gt.grants, x = GrantRec.fresh x.bay) ∧ State.reset.gt.eg = 0 ∧ State.reset.gt.ea = 0 ∧
  State.reset.so.bset = ⟨500, none⟩ ∧ State.reset.so.clim = ⟨1000, none⟩ ∧
  State.reset.st = { sessions := [], pendingOrder := [], nextSession := 1 } ∧ State.reset.vl.vouchers = [] ∧
  State.reset.rq = { receipts := [], nextReceipt := 1, exhausted := false, tillReleased := false } ∧
  (∀ p, State.reset.port p =
      { rx := ⟨true, [], 0, false⟩, tx := none, framing := 0, oversize := 0, badFrame := 0, overrun := 0,
        presence := .lapsed, timer := none, lapseFlag := true, lapseStart := 0,
        events := { EventBox.none with restarted := some ⟨1, .num 1, .num 0⟩ }, mask := fullMask p } ∧
    State.reset.attentionLow p = true) ∧
  (State.reset.TablesOk ∧ State.reset.SiteOk ∧ State.reset.PlantOk ∧ State.reset.EpochsOk ∧ State.reset.ReceiptsOk ∧
    State.reset.SessionsOk ∧ State.reset.VouchersOk ∧ State.reset.BindingsOk ∧ State.reset.GrantsOk ∧ State.reset.LimitsOk ∧
    State.reset.ClaimsOk)

/-- POWER_UP_RESET and PIN_RESET are taken at any time and hold the part until the release, and VBAK_FAILURE unmarks the
retention (R173). A power-up reset shows the power-up values; a pin reset cuts frames, responses and next duties (R153, R155,
R113). While a reset is held every attention line is released (R161), neither setpoint wire has a level (R113), and any other
command has no effect: that one in the queue is then passed over, and what a held part shows, is the model's form of it
(log 18). -/
def Obligations.ResetsHoldThePart : Prop :=
  (∀ (i : Instr) (s : State), s.held ≠ none → isReset i = false → exec i s = .next s) ∧
  (∀ s : State, s.held ≠ none → (∀ p, s.attentionLow p = false) ∧ ∀ o microsecond, s.wireHigh o microsecond = none) ∧
  ∀ s : State,
    let cut (x : PortState) : PortState := { x with rx := ⟨true, [], 0, false⟩, tx := none }
    exec .powerUpReset s = .next { State.reset with
      straps := s.straps
      cfg := SiteCfg.default s.straps.bayCount
      jl := (SiteCfg.default s.straps.bayCount).judged
      rd := s.rd
      held := some .powerUp
      bt := { bays := (List.range' 1 s.straps.bayCount).map BayRec.fresh, slotWait := [] }
      gt := { grants := (List.range' 1 s.straps.bayCount).map GrantRec.fresh, eg := 0, ea := 0 }
      pending := s.pending } ∧
    exec .pinReset s = .next { s with
      held := if s.held = some .powerUp then some .powerUp else some .pin
      tb := { s.tb with advanceMade := false }
      so := { bset := { s.so.bset with next := none }, clim := { s.so.clim with next := none } }
      sp := ⟨cut s.sp.network, cut s.sp.till, cut s.sp.energy⟩ } ∧
    exec .vbakFailure s = .next { s with rd := { s.rd with marker := false } }

/-- A request whose frame completes while a response is being sent is discarded and counted as OVERRUN (R155), and one on a
port where its command is not permitted is answered NOT_PERMITTED and reaches no block. Every request of the catalogue that a
ready port takes is answered by one response, which echoes the tag and names the command; no other port's line is touched
(R156). -/
def Obligations.RequestsTurnedAwayOrAnswered : Prop :=
  (∀ (i : Instr) (p : Port) (tag code : Byte) (s : State), requestHead i = some (p, tag) →
    catalogueCode i = some code → s.held = none →
    ((s.port p).tx ≠ none →
      exec i s = .next (s.updPort p fun x => { x with overrun := min (x.overrun + 1) 65535, rx := Receiver.ready })) ∧
    ((s.port p).tx = none → p ∉ cataloguePorts code →
      exec i s = .next ((s.arrive p).respond p tag code .notPermitted .empty))) ∧
  (∀ (i : Instr) (p : Port) (tag code : Byte) (s : State), requestHead i = some (p, tag) →
    catalogueCode i = some code → s.Ready p →
    ∃ t r, exec i s = .next t ∧ (t.port p).tx = some r ∧ r.tag = tag ∧ r.code = code ∧
      ∀ q, q ≠ p → (t.port q).tx = (s.port q).tx)

/-- A valid frame restores the port's presence before its request is taken (R157, R158): nothing else changes but the
receiver, and port T's return clears the till-released mark (R150). At port N's return in RUN the grant epoch rises by 1,
every in-service bay takes it, each whose grants differ starts its mismatch timing, and GRANTS_CHANGED is raised (R103, R94). -/
def Obligations.ArrivalRestoresPresence : Prop :=
  (∀ (p : Port) (s : State), ¬ (p = .network ∧ s.isPresent .network = false ∧ s.site = .run) →
    s.arrive p = { s with
      sp := s.sp.set p { s.port p with rx := Receiver.ready, presence := .present, timer := some s.tb.ms }
      rq := { s.rq with tillReleased :=
        if p = .till ∧ s.isPresent .till = false then false else s.rq.tillReleased } }) ∧
  (∀ s : State, s.isPresent .network = false → s.site = .run → s.gt.eg < Config.maxWord →
    let raised := EventNote.raised (s.port .network).events.grantsChanged (.num (s.gt.eg + 1)) (.num 0)
    s.arrive .network = { s with
      sp := s.sp.set .network { s.port .network with
        rx := Receiver.ready
        presence := .present
        timer := some s.tb.ms
        events := { (s.port .network).events with grantsChanged := some raised } }
      gt := { s.gt with
        eg := s.gt.eg + 1
        grants := s.gt.grants.map fun x =>
          if s.isInService x.bay then
            { x with e := s.gt.eg + 1, mismatch := if x.g = x.a then x.mismatch else some s.tb.ms }
          else x } })

/-- PING answers with the straps, the site state, the three ports' presence and lapse flags and the asking port's link
counters, all as before any clearing; option 1 then clears the port's counters and its lapse flag. Another byte, or two
bytes or more, is refused (R165). -/
def Obligations.PingReportsAndClears : Prop :=
  ∀ (p : Port) (tag : Byte) (s : State), s.Ready p →
    (∃ r : PingReply,
      r.bayCount = s.straps.bayCount ∧ r.speed = s.straps.speed ∧ r.site = s.site ∧
      r.presentN = (decide (p = .network) || s.isPresent .network) ∧
      r.presentT = (decide (p = .till) || s.isPresent .till) ∧
      r.presentE = (decide (p = .energy) || s.isPresent .energy) ∧
      r.lapsedN = (s.port .network).lapseFlag ∧ r.lapsedT = (s.port .till).lapseFlag ∧
      r.lapsedE = (s.port .energy).lapseFlag ∧ r.framing = (s.port p).framing ∧ r.oversize = (s.port p).oversize ∧
      r.badFrame = (s.port p).badFrame ∧ r.overrun = (s.port p).overrun ∧
      exec (.ping p tag []) s = .next ((s.arrive p).respond p tag 0x01 .ok (.ping r)) ∧
      exec (.ping p tag [0]) s = .next ((s.arrive p).respond p tag 0x01 .ok (.ping r)) ∧
      exec (.ping p tag [1]) s = .next (((s.arrive p).updPort p fun x =>
        { x with framing := 0, oversize := 0, badFrame := 0, overrun := 0, lapseFlag := false }).respond p tag 0x01 .ok
          (.ping r))) ∧
    ∀ payload : List Byte, (2 ≤ payload.length ∨ ∃ b : Byte, payload = [b] ∧ 2 ≤ b.toNat) →
      exec (.ping p tag payload) s = .next ((s.arrive p).respond p tag 0x01 .badRequest .empty)

/-- READ NOTICE returns the pending, enabled notice of the port with the lowest code, or the named notice if it is pending;
an event notice it returns stops being pending, a level notice does not. With nothing to show, and for a named notice that is
not pending, it answers code 0 and count 0; a code outside the list and two bytes or more are refused (R162). The codes are
those of section 11.4 (R160). A level notice is pending exactly under its rule's condition, with the details read from the
state (R56, R62, R88, R101, R151), an event notice while a raise of it stands, and a port's line is low while a pending notice
is enabled (R161). The bits of the pending set are DEDUCED (log 23), and the bays in FALLBACK are the known ones (log 21). -/
def Obligations.ReadNoticeSelects : Prop :=
  (∀ (p : Port) (tag : Byte) (s : State), s.Ready p →
    let a := s.arrive p
    (∀ (code : Nat) (n : Notice) (payload : List Byte), (code, n) ∈ codedNotices p → a.isPending p n = true →
      ((payload = [] ∧ maskEnables (a.port p).mask code = true ∧
          ∀ c m, (c, m) ∈ codedNotices p → c < code → a.isPending p m = true → maskEnables (a.port p).mask c = false) ∨
        payload = [BitVec.ofNat 8 code]) →
      ∃ r : NoticeReply, r.code = code ∧ r.pendingSet = a.pendingSet p ∧ r.mask = (a.port p).mask ∧
        (∀ note, (a.port p).events.get n = some note → r.count = note.count ∧ r.a = note.a ∧ r.b = note.b) ∧
        ((a.port p).events.get n = none → r.count = 1 ∧
          r.a = .num (a.levelDetail p n).1 ∧ r.b = .num (a.levelDetail p n).2) ∧
        exec (.readNotice p tag payload) s =
          .next ((a.updPort p fun x => { x with events := x.events.set n none }).respond p tag 0x02 .ok (.notice r))) ∧
    (∀ payload : List Byte,
      ((payload = [] ∧ ∀ c m, (c, m) ∈ codedNotices p → a.isPending p m = true →
          maskEnables (a.port p).mask c = false) ∨
        ∃ code n, (code, n) ∈ codedNotices p ∧ payload = [BitVec.ofNat 8 code] ∧ a.isPending p n = false) →
      ∃ x y : Detail, exec (.readNotice p tag payload) s = .next (a.respond p tag 0x02 .ok
        (.notice ⟨0, 0, x, y, a.pendingSet p, (a.port p).mask⟩))) ∧
    ∀ payload : List Byte, (2 ≤ payload.length ∨ ∃ b : Byte, payload = [b] ∧ (b = 0 ∨ (codedNotices p).length < b.toNat)) →
      exec (.readNotice p tag payload) s = .next (a.respond p tag 0x02 .badRequest .empty)) ∧
  codedNotices .energy = [(1, .restarted), (2, .storeOverload), (3, .overcommit), (4, .demandExceeded),
    (5, .networkLapsed), (6, .ackOverdue), (7, .meterSilent), (8, .batteryBound), (9, .limitsTaken)] ∧
  codedNotices .network = [(1, .restarted), (2, .grantsChanged), (3, .ackOverdue), (4, .queueNearFull),
    (5, .receiptWaiting), (6, .slotWait)] ∧
  codedNotices .till = [(1, .restarted), (2, .voucherExpired), (3, .receiptWaiting)] ∧
  ∀ s : State,
    let known (b : BayRec) : Bool := decide (1 ≤ b.number ∧ b.number ≤ s.cfg.bayCount)
    let fallback := s.bt.bays.filter fun b => known b && decide (b.state = .fallback)
    let overdue := ((s.bt.bays.filter fun b => known b && decide (b.state ≠ .outOfService)).map (·.number)).filter
      fun k => (s.grant k).overdue
    let owed (p : Port) : List Receipt := s.rq.receipts.filter fun r => r.owedTo p
    let level (p : Port) (n : Notice) (condition : Prop) (x y : Nat) : Prop :=
      (s.isPending p n = true ↔ condition) ∧ (condition → s.levelDetail p n = (x, y))
    level .energy .overcommit (s.site = .run ∧ ∃ r, s.al.results = some r ∧ r.cb < s.committedSum)
      s.committedSum ((s.al.results.map (·.cb)).getD 0) ∧
    level .energy .networkLapsed (s.site = .run ∧ (s.port .network).presence = .lapsed)
      (s.port .network).lapseStart fallback.length ∧
    (∀ p, level p .ackOverdue (overdue ≠ []) overdue.length (overdue.headD 0)) ∧
    (s.TablesOk → overdue.Pairwise (· < ·)) ∧
    level .network .queueNearFull (56 ≤ s.rq.receipts.length) s.rq.receipts.length s.st.pendingOrder.length ∧
    (∀ p, level p .receiptWaiting (owed p ≠ []) (owed p).length (((owed p).head?.map (·.number)).getD 0)) ∧
    level .network .slotWait (s.bt.slotWait ≠ []) s.bt.slotWait.length (s.bt.slotWait.headD 0) ∧
    (∀ p, ∀ n ∈ [Notice.restarted, .storeOverload, .demandExceeded, .meterSilent, .batteryBound, .limitsTaken,
      .grantsChanged, .voucherExpired], s.isPending p n = ((s.port p).events.get n).isSome) ∧
    ∀ p,
      (s.attentionLow p = true ↔ s.held = none ∧ ∃ code n, (code, n) ∈ codedNotices p ∧ s.isPending p n = true ∧
        maskEnables (s.port p).mask code = true) ∧
      ∀ code, 1 ≤ code → code ≤ 16 → (maskEnables (s.pendingSet p) code = true ↔
        ∃ n, (code, n) ∈ codedNotices p ∧ s.isPending p n = true)

/-- SET NOTICE MASK takes the given bits of the codes in the asking port's list and answers with the mask as stored; a
payload of another length is refused (R163). -/
def Obligations.SetNoticeMaskTakesListedBits : Prop :=
  ∀ (p : Port) (tag b1 b0 : Byte) (s : State), s.Ready p →
    (∃ m : Half, (∀ code, 1 ≤ code → code ≤ 16 →
        maskEnables m code = (decide (code ≤ (noticesOf p).length) && (b1 ++ b0 : Half).getLsbD (code - 1))) ∧
      exec (.setNoticeMask p tag [b1, b0]) s =
        .next (((s.arrive p).updPort p fun x => { x with mask := m }).respond p tag 0x03 .ok (.mask m))) ∧
    ∀ payload : List Byte, payload.length ≠ 2 →
      exec (.setNoticeMask p tag payload) s = .next ((s.arrive p).respond p tag 0x03 .badRequest .empty)

/-! ### Configuration and the site state -/

/-- An item stored is the item read and no other item changes. A value below an item's range is stored as its least value, one
above it as its greatest, and one within it as it is; the window length is the greatest of 300, 900 and 1800 not above the
value, or 300 (section 12.2, R169). -/
def Obligations.ConfigItemsStoreAndClamp : Prop :=
  (∀ (x : SiteCfg) (item j : ConfigItem) (v : Nat), valueEncoded item v = true →
    (x.store item v).item j = if j = item then v else x.item j) ∧
  (∀ n v, 1 ≤ n → (v < 1 → clampItem n .bayCount v = 1) ∧ (n < v → clampItem n .bayCount v = n) ∧
    (1 ≤ v → v ≤ n → clampItem n .bayCount v = v)) ∧
  (∀ n v, (v < 300 → clampItem n .windowLength v = 300) ∧ (300 ≤ v →
    (clampItem n .windowLength v = 300 ∨ clampItem n .windowLength v = 900 ∨ clampItem n .windowLength v = 1800) ∧
    clampItem n .windowLength v ≤ v ∧
    ∀ w, (w = 300 ∨ w = 900 ∨ w = 1800) → w ≤ v → w ≤ clampItem n .windowLength v)) ∧
  ∀ (n : Nat) (item : ConfigItem) (v lo hi : Nat),
    ((∃ c, (item, lo, hi) ∈ ([(.chanEnable c, 0, 1), (.chanEdge c, 0, 1), (.chanFilter c, 1, 8),
      (.chanWeight c, 1, 100)] : List (ConfigItem × Nat × Nat))) ∨
    (item, lo, hi) ∈ ([(.bayMin, 10, 100), (.perBayCap, 10, 3500), (.fallbackPower, 0, 220), (.reportLimit, 5, 120),
      (.abandonLimit, 10, 1440), (.ackLimit, 2, 60), (.roundPeriod, 1, 10), (.agingLimit, 1, 255),
      (.promotionLength, 1, 65535), (.silenceLimit, 5, 600), (.batteryCapacity, 0, 4000000), (.bchgMax, 0, 65535),
      (.bdisMax, 0, 65535), (.canopyRated, 0, 65535), (.safeImportCap, 0, 65535), (.safeDemand, 0, 65535),
      (.safeMargin, 0, 5000), (.safeFloor, 0, 4000000), (.safeCeil, 0, 4000000), (.safeTarget, 0, 4000000),
      (.presenceLimit .network, 2, 60), (.presenceLimit .till, 10, 600), (.presenceLimit .energy, 5, 300),
      (.minBasket, 100, 10000000), (.voucherRate, 1, 1000), (.voucherCap, 100, 100000),
      (.voucherValidity, 10, 1440), (.tillHold, 10, 1440)] : List (ConfigItem × Nat × Nat))) →
    (v < lo → clampItem n item v = lo) ∧ (hi < v → clampItem n item v = hi) ∧
      (lo ≤ v → v ≤ hi → clampItem n item v = v)

/-- WRITE CONFIG in CONFIGURE stores the pairs in the order given, each value clamped, and answers ADJUSTED exactly when a
clamp changed a value (R169). A channel that is enabled, or that changes its edge or filter length, begins a capture, a
disabled one ends it (R16, R22), and the SoC is clamped to the new capacity (R24). In RUN it is refused; an empty list, a pair
that names no item and an enable or edge above 1 are refused in both site states. That the reply lists the pairs as given, and
that old and new configuration are compared before and after the whole request, is the model's choice (log 8), and so is that
a channel ending its capture keeps its silence reference (log 13), the form misfit (log 6), and that the value of a pair has 32
bits for every item, so that each such value of an item of a range is taken (log 28). -/
def Obligations.WriteConfigTakes : Prop :=
  (∀ (tag : Byte) (l : List ConfigPair) (pairs : List (ConfigItem × Nat)) (s : State), s.Ready .energy →
    l ≠ [] → l.map (fun x => (x.item, x.value.toNat)) = pairs.map (fun x => (some x.1, x.2)) →
    (∀ x ∈ pairs, ∀ c, x.1 = .chanEnable c ∨ x.1 = .chanEdge c → x.2 ≤ 1) →
    let stored := pairs.map fun x => (x.1, clampItem s.straps.bayCount x.1 x.2)
    (s.site = .configure →
      ∃ (cfg : SiteCfg) (chan : Five ChannelState),
        cfg = stored.foldl (fun y p => y.store p.1 p.2) s.cfg ∧
        (∀ c, chan.get c =
          if (cfg.chan.get c).enabled = true ∧ ((s.chanCfg c).enabled = false ∨
              (cfg.chan.get c).falling ≠ (s.chanCfg c).falling ∨ (cfg.chan.get c).filter ≠ (s.chanCfg c).filter) then
            ⟨none, none, .zero, none, none, s.tb.ms, false, (s.chan c).pulses⟩
          else if (cfg.chan.get c).enabled = false ∧ (s.chanCfg c).enabled = true then
            ⟨none, none, .zero, none, none, (s.chan c).silenceRef, false, (s.chan c).pulses⟩
          else s.chan c) ∧
        exec (.writeConfig .energy tag (.fields l)) s =
          .next (State.respond .energy tag 0x10 (if stored = pairs then .ok else .adjusted) (.written stored)
            { s.arrive .energy with
              cfg := cfg
              mi := { s.mi with chan := chan, soc := min s.mi.soc cfg.batteryCapacity } })) ∧
    (s.site = .run →
      exec (.writeConfig .energy tag (.fields l)) s =
        .next ((s.arrive .energy).respond .energy tag 0x10 .badState .empty))) ∧
  ∀ (tag : Byte) (s : State), s.Ready .energy →
    let refused (body : Body (List ConfigPair)) : Prop :=
      exec (.writeConfig .energy tag body) s = .next ((s.arrive .energy).respond .energy tag 0x10 .badRequest .empty)
    refused .misfit ∧ refused (.fields []) ∧
    ∀ l : List ConfigPair, (∃ x ∈ l, x.item = none ∨
      ∃ c, (x.item = some (.chanEnable c) ∨ x.item = some (.chanEdge c)) ∧ 2 ≤ x.value.toNat) → refused (.fields l)

/-- READ CONFIG returns OK with every item as stored, in the order of the table of section 12.2, and the N and SPEED of the
last release, in both site states, and changes no state; a non-empty payload refuses it (R170). The order of the five
channels within a row is left open here. -/
def Obligations.ReadConfigReturnsItems : Prop :=
  ∃ e g f w : List Channel,
    (∀ l ∈ [e, g, f, w], l.Perm [.gridIn, .gridOut, .canopy, .battIn, .battOut]) ∧
    let order : List ConfigItem :=
      [.bayCount, .bayMin, .perBayCap, .fallbackPower, .reportLimit, .abandonLimit, .ackLimit, .roundPeriod,
        .windowLength, .agingLimit, .promotionLength] ++
      e.map .chanEnable ++ g.map .chanEdge ++ f.map .chanFilter ++ w.map .chanWeight ++
      [.silenceLimit, .batteryCapacity, .bchgMax, .bdisMax, .canopyRated, .safeImportCap, .safeDemand, .safeMargin,
        .safeFloor, .safeCeil, .safeTarget, .presenceLimit .network, .presenceLimit .till, .presenceLimit .energy,
        .minBasket, .voucherRate, .voucherCap, .voucherValidity, .tillHold]
    ∀ (tag : Byte) (s : State), s.Ready .energy →
      exec (.readConfig .energy tag []) s = .next ((s.arrive .energy).respond .energy tag 0x11 .ok
        (.config (order.map fun item => (item, s.cfg.item item)) s.straps.bayCount s.straps.speed)) ∧
      ∀ b l, exec (.readConfig .energy tag (b :: l)) s =
        .next ((s.arrive .energy).respond .energy tag 0x11 .badRequest .empty)

/-- COMMIT SITE moves the site to RUN, and each block takes up RUN (R171, with R12, R34, R45, R91, R102, R104, R159): the
epochs and the fallback acknowledgements, the SoC fields of the EM Set and the Pending Set clamped to the capacity, the Safe Set
rebuilt and active, a first window, the first tick one round period away, every PRESENT port LAPSED with its lapse flag and the
minute, and port E answered OK. In RUN it is refused with BAD_STATE, and in CONFIGURE with BAD_REQUEST and the detail of
the first of its two checks that fails; nothing changes then but the arrival and the answer. -/
def Obligations.CommitSiteEntersRun : Prop :=
  (∀ (tag : Byte) (s : State), s.Ready .energy → s.site = .configure →
    s.cfg.fallbackPower * s.cfg.bayCount ≤ s.cfg.safeImportCap →
    ¬ (s.cfg.canopyRated = 0 ∧ (s.cfg.chan.get .canopy).enabled = true) →
    ∃ (t : State) (w : Window),
      exec (.commitSite .energy tag []) s = .next t ∧ t.site = .run ∧
      t.gt.eg = 0 ∧ t.gt.ea = 0 ∧
      t.gt.grants = s.gt.grants.map (fun x => if s.isInService x.bay
        then ⟨x.bay, 0, s.cfg.fallbackPower, 0, false, none, false⟩ else { x with e := 0 }) ∧
      t.bt.bays = s.bt.bays.map (fun b => if s.cfg.bayCount < b.number then BayRec.fresh b.number
        else if b.state = .active
          then { b with state := .fallback, stale := false, fallbackStart := some s.tb.monoMin } else b) ∧
      t.bt.slotWait = s.bt.slotWait ∧
      (let ordered (f c g : Nat) : Nat × Nat × Nat :=
        let f' := min f s.cfg.batteryCapacity
        let c' := min (max c f') s.cfg.batteryCapacity
        (f', c', min (max g f') c')
      t.ls.em = (s.ls.em.map fun x =>
        let k := ordered x.socFloor x.socCeil x.socTarget
        { x with socFloor := k.1, socCeil := k.2.1, socTarget := k.2.2 }) ∧
      (∀ f c g, s.ls.pend.socFloor = some f → s.ls.pend.socCeil = some c → s.ls.pend.socTarget = some g →
        t.ls.pend = { s.ls.pend with
          socFloor := some (ordered f c g).1, socCeil := some (ordered f c g).2.1,
          socTarget := some (ordered f c g).2.2 }) ∧
      (s.ls.pend.socFloor = none → s.ls.pend.socCeil = none → s.ls.pend.socTarget = none → t.ls.pend = s.ls.pend) ∧
      (let k := ordered s.cfg.safeFloor s.cfg.safeCeil s.cfg.safeTarget
      t.ls.safe = {
        importCap := s.cfg.safeImportCap
        exportCap := 0
        demandLimit := s.cfg.safeDemand
        storeMargin := s.cfg.safeMargin
        socFloor := k.1
        socCeil := k.2.1
        socTarget := k.2.2
        tariff := (s.ls.em.map (·.tariff)).getD [⟨0, 0, false, false⟩] })) ∧
      t.ls.active = t.ls.safe ∧ t.ls.source = .safe ∧
      t.dg.window = some w ∧ w.startMinute = s.counter w.basis ∧ w.endMinute = s.windowEndMinute ∧
      w.length = s.partLength ∧ w.d = s.cfg.safeDemand ∧ w.elim = w.d * w.length / 36 ∧ w.e = 0 ∧
      w.basis = (if s.tb.clockSet then .clock else .monotonic) ∧ t.dg.history = s.dg.history ∧
      t.al = { loadHistory := [], rotation := if s.cfg.bayCount < s.al.rotation then 1 else s.al.rotation,
               roundNumber := 0, results := none } ∧
      t.tb = { s.tb with nextTick := some (s.tb.ms + BitVec.ofNat 32 (s.cfg.roundPeriod * 1000)) } ∧
      (let lapsed (x : PortState) : PortState :=
        { x with presence := .lapsed, lapseFlag := true, lapseStart := s.tb.monoMin }
      (∀ p, p ≠ .energy → t.port p = if (s.port p).presence = .present then lapsed (s.port p) else s.port p) ∧
      t.port .energy = { lapsed (s.port .energy) with
        rx := Receiver.ready, timer := some s.tb.ms, tx := some ⟨tag, 0x12, .ok, .empty⟩ }) ∧
      t.cfg = s.cfg ∧ t.jl = s.jl ∧ t.mi = s.mi ∧ t.so = s.so ∧ t.st = s.st ∧ t.vl = s.vl ∧ t.rq = s.rq ∧ t.straps = s.straps ∧
      t.rd = s.rd ∧ t.held = s.held ∧ t.pending = s.pending) ∧
  (∀ (tag : Byte) (s : State), s.Ready .energy →
    (s.site = .run → exec (.commitSite .energy tag []) s =
      .next ((s.arrive .energy).respond .energy tag 0x12 .badState .empty)) ∧
    (s.site = .configure → s.cfg.safeImportCap < s.cfg.fallbackPower * s.cfg.bayCount →
      exec (.commitSite .energy tag []) s =
        .next ((s.arrive .energy).respond .energy tag 0x12 .badRequest (.commitDetail 1))) ∧
    (s.site = .configure → s.cfg.fallbackPower * s.cfg.bayCount ≤ s.cfg.safeImportCap → s.cfg.canopyRated = 0 →
      (s.cfg.chan.get .canopy).enabled = true →
      exec (.commitSite .energy tag []) s =
        .next ((s.arrive .energy).respond .energy tag 0x12 .badRequest (.commitDetail 2))) ∧
    ∀ b l, exec (.commitSite .energy tag (b :: l)) s =
      .next ((s.arrive .energy).respond .energy tag 0x12 .badRequest .empty))

/-- ENTER CONFIGURE, with the Session Table empty, moves the site to CONFIGURE: the window is cut into the history without a
successor, the schedule stops, the round state and every grant are cleared, and the idle duties are written
(R172, with R4, R42, R91, R104, R112). With a session in the table (R130), in CONFIGURE and with a payload it is refused. -/
def Obligations.EnterConfigureClears : Prop :=
  (∀ (tag : Byte) (s : State), s.Ready .energy →
    (s.site = .configure → exec (.enterConfigure .energy tag []) s =
      .next ((s.arrive .energy).respond .energy tag 0x13 .badState .empty)) ∧
    ∀ b l, exec (.enterConfigure .energy tag (b :: l)) s =
      .next ((s.arrive .energy).respond .energy tag 0x13 .badRequest .empty)) ∧
  ∀ (tag : Byte) (w : Window) (s : State), s.Ready .energy → s.site = .run → s.dg.window = some w →
    (s.st.sessions = [] →
      let n := max 1 (w.length - s.remaining w)
      let x : HistoryEntry := ⟨w.basis, w.startMinute, n, w.e, min (w.e * 36 / n) 65535, w.d, w.elim,
        decide (w.d ≠ 0 ∧ w.elim < w.e), true⟩
      ∃ sp : StationPorts,
        exec (.enterConfigure .energy tag []) s = .next { s with
          site := .configure
          tb := { s.tb with nextTick := none }
          dg := { window := none, history := appendHistory s.dg.history x }
          al := { s.al with loadHistory := [], results := none }
          gt := { s.gt with grants := s.gt.grants.map fun y =>
            { y with g := 0, a := 0, deferred := false, mismatch := none, overdue := false } }
          so := { bset := { s.so.bset with next := some 500 }, clim := { s.so.clim with next := some 1000 } }
          sp := sp } ∧
        sp.network = s.sp.network ∧ sp.till = s.sp.till ∧ sp.energy.tx = some ⟨tag, 0x13, .ok, .empty⟩ ∧
        sp.energy.presence = .present ∧
        sp.energy.events.demandExceeded = if x.isOver
          then some (EventNote.raised s.sp.energy.events.demandExceeded (.num w.startMinute) (.basis w.basis))
          else s.sp.energy.events.demandExceeded) ∧
    (s.st.sessions ≠ [] → exec (.enterConfigure .energy tag []) s =
      .next ((s.arrive .energy).respond .energy tag 0x13 .badState .empty))

/-! ### Limits, the clock and the reads of port E -/

/-- SET LIMITS: each carried cap becomes present, a carried margin is clamped to 5000; with a SoC field carried all three
become present, formed from the request, the Pending Set, the EM Set or the Safe Set in that order and clamped against the
capacity; ADJUSTED tells that a clamp changed a value (R8). SET TARIFF takes a table of 1 to 8 bands with strictly rising
starts of at most 1439 and refuses any other (R9). Each sets the waiting mark (R5). A SET LIMITS that carries no field is
refused. So is a payload of no form, which the model calls misfit (log 6): that such a SET LIMITS is BAD_REQUEST is deduced from
R156 (log 22), and the 16 bits of a band's start are the model's choice (log 31). -/
def Obligations.PendingSetTakesWrites : Prop :=
  (∀ (tag : Byte) (s : State), s.Ready .energy →
    let refused (code : Byte) : Host.Outcome State Fault Refusal :=
      .next ((s.arrive .energy).respond .energy tag code .badRequest .empty)
    exec (.setLimits .energy tag .misfit) s = refused 0x14 ∧
    exec (.setLimits .energy tag (.fields ⟨none, none, none, none, none, none, none⟩)) s = refused 0x14 ∧
    exec (.setTariff .energy tag .misfit) s = refused 0x15) ∧
  (∀ (tag : Byte) (q : LimitFields) (s : State), s.Ready .energy →
    q ≠ ⟨none, none, none, none, none, none, none⟩ →
    let first (r : Option Word) (p : Option Nat) (em : Option Nat) (safe : Nat) : Nat :=
      ((r.map BitVec.toNat).or (p.or em)).getD safe
    let f := first q.socFloor s.ls.pend.socFloor (s.ls.em.map (·.socFloor)) s.ls.safe.socFloor
    let c := first q.socCeil s.ls.pend.socCeil (s.ls.em.map (·.socCeil)) s.ls.safe.socCeil
    let g := first q.socTarget s.ls.pend.socTarget (s.ls.em.map (·.socTarget)) s.ls.safe.socTarget
    let f' := min f s.cfg.batteryCapacity
    let c' := min (max c f') s.cfg.batteryCapacity
    let g' := min (max g f') c'
    let soc := q.socFloor ≠ none ∨ q.socCeil ≠ none ∨ q.socTarget ≠ none
    ∃ (pend : PendingSet) (st : Status),
      exec (.setLimits .energy tag (.fields q)) s =
        .next (State.respond .energy tag 0x14 st .empty
          { s.arrive .energy with ls := { s.ls with pend := pend } }) ∧
      pend.importCap = (q.importCap.map BitVec.toNat).or s.ls.pend.importCap ∧
      pend.exportCap = (q.exportCap.map BitVec.toNat).or s.ls.pend.exportCap ∧
      pend.demandLimit = (q.demandLimit.map BitVec.toNat).or s.ls.pend.demandLimit ∧
      pend.storeMargin = (q.storeMargin.map fun m => min m.toNat 5000).or s.ls.pend.storeMargin ∧
      (soc → pend.socFloor = some f' ∧ pend.socCeil = some c' ∧ pend.socTarget = some g') ∧
      (¬ soc → pend.socFloor = s.ls.pend.socFloor ∧ pend.socCeil = s.ls.pend.socCeil ∧
        pend.socTarget = s.ls.pend.socTarget) ∧
      pend.tariff = s.ls.pend.tariff ∧ pend.waiting = true ∧
      (st = .adjusted ∨ st = .ok) ∧
      (st = .adjusted ↔ (∃ m, q.storeMargin = some m ∧ 5000 < m.toNat) ∨ (soc ∧ ¬ (f' = f ∧ c' = c ∧ g' = g)))) ∧
  (∀ (tag : Byte) (l : List BandFields) (s : State), s.Ready .energy →
    let ok := 1 ≤ l.length ∧ l.length ≤ 8 ∧ (l.map fun b => b.start.toNat).Pairwise (· < ·) ∧
      ∀ b ∈ l, b.start.toNat ≤ 1439
    (ok → exec (.setTariff .energy tag (.fields l)) s =
      .next (State.respond .energy tag 0x15 .ok .empty { s.arrive .energy with ls := { s.ls with pend :=
        { s.ls.pend with
          tariff := some (l.map fun b => ⟨b.start.toNat, b.price.toNat, b.gridCharge, b.peak⟩)
          waiting := true } } })) ∧
    (¬ ok → exec (.setTariff .energy tag (.fields l)) s =
      .next ((s.arrive .energy).respond .energy tag 0x15 .badRequest .empty)))

/-- SET CLOCK sets the minute-of-day, the clock phase and the clock-set flag, and leaves the other counters and the
schedule; a minute above 1439, seconds above 59 and another length are refused (R3). In RUN the running window is cut with its
elapsed length and a prorated CLOCK window opens (R41). -/
def Obligations.SetClockSets : Prop :=
  (∀ (tag : Byte) (payload : List Byte) (s : State), s.Ready .energy →
    (payload.length ≠ 3 ∨ ∃ m1 m0 sec : Byte, payload = [m1, m0, sec] ∧
      (1439 < m1.toNat * 256 + m0.toNat ∨ 59 < sec.toNat)) →
    exec (.setClock .energy tag payload) s = .next ((s.arrive .energy).respond .energy tag 0x16 .badRequest .empty)) ∧
  ∀ (tag m1 m0 sec : Byte) (s : State), s.Ready .energy → m1.toNat * 256 + m0.toNat ≤ 1439 → sec.toNat ≤ 59 →
    let minute := m1.toNat * 256 + m0.toNat
    let tb := { s.tb with minuteOfDay := minute, clockPhase := sec.toNat * 1000, clockSet := true }
    (s.site = .configure → exec (.setClock .energy tag [m1, m0, sec]) s =
      .next (State.respond .energy tag 0x16 .ok .empty { s.arrive .energy with tb := tb })) ∧
    ∀ w, s.site = .run → s.dg.window = some w →
      (s.cfg.windowLength = 300 ∨ s.cfg.windowLength = 900 ∨ s.cfg.windowLength = 1800) →
      let n := max 1 (w.length - s.remaining w)
      let x : HistoryEntry := ⟨w.basis, w.startMinute, n, w.e, min (w.e * 36 / n) 65535, w.d, w.elim,
        decide (w.d ≠ 0 ∧ w.elim < w.e), true⟩
      let k := s.cfg.windowLength / 60
      let stop := ((minute / k + 1) * k) % 1440
      let len := ((stop + 1440 - minute) % 1440) * 60 - sec.toNat
      ∃ sp : StationPorts,
        exec (.setClock .energy tag [m1, m0, sec]) s = .next { s with
          tb := tb
          dg := { window := some ⟨.clock, minute, stop, len, s.ls.active.demandLimit,
                    s.ls.active.demandLimit * len / 36, 0⟩
                  history := appendHistory s.dg.history x }
          sp := sp } ∧
        sp.network = s.sp.network ∧ sp.till = s.sp.till ∧ sp.energy.tx = some ⟨tag, 0x16, .ok, .empty⟩ ∧
        sp.energy.events.demandExceeded = if x.isOver
          then some (EventNote.raised s.sp.energy.events.demandExceeded (.num w.startMinute) (.basis w.basis))
          else s.sp.energy.events.demandExceeded

/-- READ SITE reports the clocks, the limits in force and which pending parts are present (R14), the site state, the round
results, the committed sum, OVERCOMMIT's condition, port N's presence, the bays in each state and on the Slot Wait List and the
SoC (R90) as they stand, and clears SOC_CLIPPED after reporting it (R25); no other state changes. The bays counted are the known
ones (log 21), and the seconds are those of a phase below 60 000 (log 20). -/
def Obligations.ReadSiteReportsAndClears : Prop :=
  ∀ (tag : Byte) (s : State), s.Ready .energy →
    let count (x : BayState) : Nat :=
      (s.bt.bays.filter fun b => decide (1 ≤ b.number ∧ b.number ≤ s.cfg.bayCount ∧ b.state = x)).length
    let active := s.ls.active
    let pend := s.ls.pend
    (∃ r : SiteReply,
      exec (.readSite .energy tag []) s = .next (State.respond .energy tag 0x17 .ok (.site r)
        { s.arrive .energy with mi := { s.mi with socClipped := false } }) ∧
      r.monoMin = s.tb.monoMin ∧ r.minuteOfDay = s.tb.minuteOfDay ∧ r.clockSet = s.tb.clockSet ∧
      (s.tb.clockPhase < 60000 → r.clockSeconds = s.tb.clockPhase / 1000) ∧
      r.roundPeriod = s.cfg.roundPeriod ∧ r.source = s.ls.source ∧ r.emPresent = s.ls.em.isSome ∧
      r.pendWaiting = pend.waiting ∧ r.pendImportCap = pend.importCap.isSome ∧
      r.pendExportCap = pend.exportCap.isSome ∧ r.pendDemandLimit = pend.demandLimit.isSome ∧
      r.pendStoreMargin = pend.storeMargin.isSome ∧ r.pendSocFloor = pend.socFloor.isSome ∧
      r.pendSocCeil = pend.socCeil.isSome ∧ r.pendSocTarget = pend.socTarget.isSome ∧
      r.pendTariff = pend.tariff.isSome ∧
      r.importCap = active.importCap ∧ r.exportCap = active.exportCap ∧ r.demandLimit = active.demandLimit ∧
      r.storeMargin = active.storeMargin ∧ r.socFloor = active.socFloor ∧ r.socCeil = active.socCeil ∧
      r.socTarget = active.socTarget ∧ r.bandCount = active.tariff.length ∧ r.bandIndex = s.lookup.1 ∧
      r.site = s.site ∧ r.results = s.al.results ∧ r.committedSum = s.committedSum ∧
      (r.overcommit = true ↔ s.site = .run ∧ ∃ x, s.al.results = some x ∧ x.cb < s.committedSum) ∧
      r.network = (s.port .network).presence ∧ r.vacant = count .vacant ∧ r.waiting = count .waiting ∧
      r.active = count .active ∧ r.done = count .done ∧ r.fallback = count .fallback ∧
      r.outOfService = count .outOfService ∧ r.slotWaitLength = s.bt.slotWait.length ∧
      r.soc = s.mi.soc ∧ r.batteryCapacity = s.cfg.batteryCapacity ∧ r.socClipped = s.mi.socClipped) ∧
    ∀ b l, exec (.readSite .energy tag (b :: l)) s =
      .next ((s.arrive .energy).respond .energy tag 0x17 .badRequest .empty)

/-- READ WINDOWS returns OK with the window length, the current window with its remaining time and its allowance at the
moment of the request, and the history oldest first; it changes no state and clears no notice, in both site states, and a
non-empty payload refuses it (R43). -/
def Obligations.ReadWindowsReturns : Prop :=
  ∀ (tag : Byte) (s : State), s.Ready .energy →
    exec (.readWindows .energy tag []) s = .next ((s.arrive .energy).respond .energy tag 0x18 .ok
      (.windows ⟨s.cfg.windowLength, s.dg.window.map fun w => (w, s.remaining w, s.windowAllowance w),
        s.dg.history⟩)) ∧
    ∀ b l, exec (.readWindows .energy tag (b :: l)) s =
      .next ((s.arrive .energy).respond .energy tag 0x18 .badRequest .empty)

/-- The demand allowance of a window, and the remaining time it rests on (R37, R38): the Active import cap with the guard
off, 0 once the limit energy is reached, and else the power that would bring E to Elim at the boundary, never above
the import cap. -/
def Obligations.AllowanceFollowsWindow : Prop :=
  ∀ (w : Window) (s : State),
    (w.d = 0 → s.windowAllowance w = s.ls.active.importCap) ∧
    (w.d ≠ 0 → w.elim ≤ w.e → s.windowAllowance w = 0) ∧
    (w.d ≠ 0 → w.e < w.elim →
      s.windowAllowance w = min s.ls.active.importCap ((w.elim - w.e) * 36 / s.remaining w)) ∧
    s.windowAllowance w ≤ s.ls.active.importCap ∧
    (w.basis = .monotonic → s.tb.monoMin < w.endMinute → s.tb.monoPhase < 60000 →
      1 ≤ s.remaining w ∧
      (s.remaining w - 1) * 1000 < (w.endMinute - s.tb.monoMin) * 60000 - s.tb.monoPhase ∧
      (w.endMinute - s.tb.monoMin) * 60000 - s.tb.monoPhase ≤ s.remaining w * 1000) ∧
    (w.basis = .clock → w.endMinute < 1440 → s.tb.minuteOfDay < 1440 → w.endMinute ≠ s.tb.minuteOfDay →
      s.tb.clockPhase < 60000 →
      let m := if s.tb.minuteOfDay < w.endMinute then w.endMinute - s.tb.minuteOfDay
        else w.endMinute + 1440 - s.tb.minuteOfDay
      (s.remaining w - 1) * 1000 < m * 60000 - s.tb.clockPhase ∧
      m * 60000 - s.tb.clockPhase ≤ s.remaining w * 1000)

/-- A channel's estimate (R21): 0 while it is disabled, silent, short of two pulses, or quiet beyond the silence limit;
else the weight times 36 000 over the greater of the interval and the time since the last pulse, at most 65 535. READ
CHANNELS returns it for each channel and changes no state (R23). -/
def Obligations.ReadChannelsEstimates : Prop :=
  ∀ (tag : Byte) (s : State), s.Ready .energy →
    (∃ r : ChannelsReply,
      exec (.readChannels .energy tag []) s =
        .next ((s.arrive .energy).respond .energy tag 0x19 .ok (.channels r)) ∧
      r.soc = s.mi.soc ∧ r.batteryCapacity = s.cfg.batteryCapacity ∧ r.socClipped = s.mi.socClipped ∧
      r.silenceLimit = s.cfg.silenceLimit ∧ r.bfull = s.mi.bfull.accepted ∧ r.bempty = s.mi.bempty.accepted ∧
      ∀ c, (r.chan.get c).cfg = s.cfg.chan.get c ∧ (r.chan.get c).accepted = (s.mi.chan.get c).accepted ∧
        (r.chan.get c).pulses = (s.mi.chan.get c).pulses ∧ (r.chan.get c).count = (s.mi.chan.get c).count ∧
        (r.chan.get c).interval = (s.mi.chan.get c).interval ∧ (r.chan.get c).silent = (s.mi.chan.get c).silent ∧
        (r.chan.get c).tau = (s.mi.chan.get c).lastPulse.map (fun t => (s.tb.ms - t).toNat) ∧
        (r.chan.get c).estimate = s.estimate c) ∧
    (∀ b l, exec (.readChannels .energy tag (b :: l)) s =
      .next ((s.arrive .energy).respond .energy tag 0x19 .badRequest .empty)) ∧
    ∀ c, ((s.cfg.chan.get c).enabled = false ∨ (s.mi.chan.get c).count ≠ .many ∨ (s.mi.chan.get c).silent = true →
        s.estimate c = 0) ∧
      ∀ t i, (s.mi.chan.get c).lastPulse = some t → (s.mi.chan.get c).interval = some i →
        (s.cfg.silenceLimit * 1000 < (s.tb.ms - t).toNat → s.estimate c = 0) ∧
        ((s.cfg.chan.get c).enabled = true → (s.mi.chan.get c).count = .many → (s.mi.chan.get c).silent = false →
          (s.tb.ms - t).toNat ≤ s.cfg.silenceLimit * 1000 →
          s.estimate c = min ((s.cfg.chan.get c).weight * 36000 / max i (s.tb.ms - t).toNat) 65535)

/-! ### Bays -/

/-- The bytes of a BAY REPORTS payload (R48, R167) are read back as the entries they were made from, for one to eight
entries; a count of 0 or above 8, a length that does not match the count, or a plug state that is neither 0 nor 1, gives none.
The whole request is checked before
any entry is taken: the payload, the site state, the bays; a refused request changes nothing but the arrival and the answer.
A request taken takes its entries one at a time in the order given, and answers for each with the bay's state and session
after that entry. -/
def Obligations.BayReportsChecks : Prop :=
  (let entry (x : ReportEntry) : List Byte :=
    [BitVec.ofNat 8 x.bay, BitVec.ofNat 8 x.plugged.toNat] ++ bytes16 x.request ++ bytes16 x.measured ++
      bytes16 x.connectorMax ++ bytes32 x.reading
  (∀ l : List ReportEntry, 1 ≤ l.length → l.length ≤ 8 →
    (∀ x ∈ l, x.bay < 256 ∧ x.request < 65536 ∧ x.measured < 65536 ∧ x.connectorMax < 65536 ∧
      x.reading < 4294967296) →
    reportFields (BitVec.ofNat 8 l.length :: l.flatMap entry) = some l) ∧
  ∀ (n : Byte) (rest : List Byte), n.toNat = 0 ∨ 8 < n.toNat ∨ rest.length ≠ 12 * n.toNat →
    reportFields (n :: rest) = none) ∧
  reportFields [] = none ∧
  (∀ (n : Byte) (rest : List Byte) (i : Nat) (plug : Byte), i < n.toNat → rest[12 * i + 1]? = some plug →
    2 ≤ plug.toNat → reportFields (n :: rest) = none) ∧
  (∀ (tag : Byte) (payload : List Byte) (s : State), s.Ready .network →
    let answer := fun st => Host.Outcome.next ((s.arrive .network).respond .network tag 0x20 st .empty)
    (reportFields payload = none → exec (.bayReports .network tag payload) s = answer .badRequest) ∧
    ∀ l, reportFields payload = some l →
      (s.site = .configure → exec (.bayReports .network tag payload) s = answer .badState) ∧
      (s.site = .run → (∃ x ∈ l, x.bay = 0 ∨ s.cfg.bayCount < x.bay) →
        exec (.bayReports .network tag payload) s = answer .unknownBay) ∧
      (s.site = .run → (∀ x ∈ l, 1 ≤ x.bay ∧ x.bay ≤ s.cfg.bayCount) →
        let after (n : Nat) : State := (l.take n).foldl State.takeEntry (s.arrive .network)
        ∃ replies : List ReportReply,
          exec (.bayReports .network tag payload) s =
            .next ((after l.length).respond .network tag 0x20 .ok (.reports replies)) ∧
          replies.length = l.length ∧
          ∀ i x b, l[i]? = some x → (after (i + 1)).bay x.bay = some b →
            replies[i]? = some ⟨x.bay, b.state, b.session⟩))

/-- A PLUGGED entry for a VACANT bay opens a session at the entry's reading while a slot is free, and the bay goes to ACTIVE
bound to it; with the table full the bay goes to WAITING at the tail of the Slot Wait List (R49, R50, R117). An issued grant
that the new connector cannot carry is lowered first (R99). -/
def Obligations.PluggedReportOpensSession : Prop :=
  ∀ (tag : Byte) (payload : List Byte) (x : ReportEntry) (b : BayRec) (s : State), s.Ready .network →
    let a := s.arrive .network
    reportFields payload = some [x] → s.site = .run → 1 ≤ x.bay → x.bay ≤ s.cfg.bayCount →
    s.bay x.bay = some b → b.state = .vacant → x.plugged = true →
    let low := a.lowered x.bay (min x.connectorMax s.cfg.perBayCap)
    let refreshed := fun (y : BayRec) =>
      { y with plugged := true, request := x.request, measured := x.measured, connectorMax := x.connectorMax,
               lastReading := x.reading, lastReport := s.tb.ms, stale := false }
    let n := s.newNumber
    (s.st.sessions.length < s.straps.bayCount + 8 →
      exec (.bayReports .network tag payload) s =
        .next (State.respond .network tag 0x20 .ok (.reports [⟨x.bay, .active, some n⟩]) { low with
          bt := { s.bt with bays := s.bt.bays.map fun y => if y.number = x.bay then
            { refreshed y with state := .active, fallbackStart := none, session := some n, hold := 0, promo := 0 }
            else y }
          st := { s.st with
            sessions := s.st.sessions ++ [
              { number := n, bay := x.bay, state := .opened, start := ⟨s.tb.monoMin, s.tb.minuteOfDay⟩, stop := none,
                cause := none, base := x.reading, metered := 0, voucher := none, creditGranted := 0,
                creditLeft := 0, free := 0, bands := [],
                flags := ⟨false, false, false, false, !s.tb.clockSet, false⟩ }]
            nextSession := if n = 65535 then 1 else n + 1 } })) ∧
    (s.straps.bayCount + 8 ≤ s.st.sessions.length →
      exec (.bayReports .network tag payload) s =
        .next (State.respond .network tag 0x20 .ok (.reports [⟨x.bay, .waiting, b.session⟩]) { low with
          bt := {
            bays := s.bt.bays.map fun y => if y.number = x.bay then
              { refreshed y with state := .waiting, fallbackStart := none } else y
            slotWait := s.bt.slotWait ++ [x.bay] } }))

/-- A session takes the next session number, skipping the numbers held in the table, in turn and with 1 after 65 535; the
number is free (R116). -/
def Obligations.NewSessionNumberIsFree : Prop :=
  ∀ s : State, s.straps.bayCount ≤ 32 → s.SessionsOk →
    let after := fun n => if n = 65535 then 1 else n + 1
    let held := s.st.sessions.map (·.number)
    s.newNumber ∉ held ∧ 1 ≤ s.newNumber ∧ s.newNumber ≤ 65535 ∧
    (s.st.nextSession ∉ held → s.newNumber = s.st.nextSession) ∧
    ∃ k, k ≤ s.st.sessions.length ∧ s.newNumber = Nat.repeat after k s.st.nextSession ∧
      ∀ j, j < k → Nat.repeat after j s.st.nextSession ∈ held

/-- An entry for a bay that does not charge (R49 to R51, R53). Where the refresh is the whole effect (UNPLUGGED for a VACANT
bay, PLUGGED for a WAITING or DONE one, any for an OUT_OF_SERVICE one), an issued grant above the new bay max of a bay in
service is lowered to it, or to 0 below the bay min, with an epoch and GRANTS_CHANGED (R99, R94). UNPLUGGED empties a WAITING
bay, which leaves the Slot Wait List (R55), and a DONE bay, after the same lowering. -/
def Obligations.UnchargedReportsRefresh : Prop :=
  (∀ (tag : Byte) (payload : List Byte) (x : ReportEntry) (b : BayRec) (s : State), s.Ready .network →
    let a := s.arrive .network
    reportFields payload = some [x] → s.site = .run → 1 ≤ x.bay → x.bay ≤ s.cfg.bayCount →
    s.bay x.bay = some b →
    ((b.state = .vacant ∧ x.plugged = false) ∨ ((b.state = .waiting ∨ b.state = .done) ∧ x.plugged = true) ∨
      b.state = .outOfService) →
    let bays := s.bt.bays.map fun (y : BayRec) => if y.number = x.bay then
      { y with plugged := x.plugged, request := x.request, measured := x.measured, connectorMax := x.connectorMax,
               lastReading := x.reading, lastReport := s.tb.ms, stale := false } else y
    let bayMax := min x.connectorMax s.cfg.perBayCap
    let v := if bayMax < s.cfg.bayMin then 0 else bayMax
    let reply := Reply.reports [⟨x.bay, b.state, b.session⟩]
    ((b.state = .outOfService ∨ (a.grant x.bay).g ≤ bayMax) →
      exec (.bayReports .network tag payload) s =
        .next (State.respond .network tag 0x20 .ok reply { a with bt := { s.bt with bays := bays } })) ∧
    (b.state ≠ .outOfService → bayMax < (a.grant x.bay).g → a.gt.eg < Config.maxWord →
      exec (.bayReports .network tag payload) s =
        .next (State.respond .network tag 0x20 .ok reply
          (State.raise .network .grantsChanged (.num (a.gt.eg + 1)) (.num 0) { a with
            bt := { s.bt with bays := bays }
            gt := { a.gt with
              eg := a.gt.eg + 1
              grants := a.gt.grants.map fun y => if y.bay = x.bay then
                { y with g := v, e := a.gt.eg + 1,
                         mismatch := if v = y.a then none else if y.g = y.a then some s.tb.ms else y.mismatch,
                         overdue := if v = y.a then false else y.overdue } else y } })))) ∧
  (∀ (tag : Byte) (payload : List Byte) (x : ReportEntry) (b : BayRec) (s : State), s.Ready .network →
    let a := s.arrive .network
    reportFields payload = some [x] → s.site = .run → 1 ≤ x.bay → x.bay ≤ s.cfg.bayCount →
    s.bay x.bay = some b → (b.state = .waiting ∨ b.state = .done) → x.plugged = false →
    exec (.bayReports .network tag payload) s =
      .next (State.respond .network tag 0x20 .ok (.reports [⟨x.bay, .vacant, b.session⟩]) {
        a.lowered x.bay (min x.connectorMax s.cfg.perBayCap) with
        bt := {
          bays := s.bt.bays.map fun y => if y.number = x.bay then
            { y with plugged := false, request := x.request, measured := x.measured, connectorMax := x.connectorMax,
                     lastReading := x.reading, lastReport := s.tb.ms, stale := false, state := .vacant,
                     fallbackStart := none } else y
          slotWait := if b.state = .waiting then s.bt.slotWait.filter fun j => decide (j ≠ x.bay)
            else s.bt.slotWait } }))

/-- An entry for an ACTIVE or a FALLBACK bay passes its reading to the bay's session with the time since the last report
(R49, R52, R54), after an issued grant that the new connector cannot carry is lowered (R99). PLUGGED: the bay is ACTIVE and
nothing else changes. UNPLUGGED: the session then closes with the UNPLUGGED cause and the bay is VACANT. -/
def Obligations.ChargingReportMeters : Prop :=
  ∀ (tag : Byte) (payload : List Byte) (x : ReportEntry) (b : BayRec) (n : Nat) (s : State), s.Ready .network →
    let a := s.arrive .network
    reportFields payload = some [x] → s.site = .run → 1 ≤ x.bay → x.bay ≤ s.cfg.bayCount →
    s.bay x.bay = some b → (b.state = .active ∨ b.state = .fallback) → b.session = some n →
    let t := { a.lowered x.bay (min x.connectorMax s.cfg.perBayCap) with
      bt := { s.bt with bays := s.bt.bays.map fun y => if y.number = x.bay then
        { y with plugged := x.plugged, request := x.request, measured := x.measured, connectorMax := x.connectorMax,
                 lastReading := x.reading, lastReport := s.tb.ms, stale := false,
                 state := if b.state = .fallback then .active else y.state,
                 fallbackStart := if b.state = .fallback then none else y.fallbackStart } else y }
      st := { s.st with sessions := s.st.sessions.map fun y => if y.number = n then
        Session.takeReading x.reading (s.tb.ms - b.lastReport).toNat x.connectorMax s.lookup y else y } }
    (x.plugged = true → exec (.bayReports .network tag payload) s =
      .next (State.respond .network tag 0x20 .ok (.reports [⟨x.bay, .active, some n⟩]) t)) ∧
    (x.plugged = false → x.bay ∉ s.bt.slotWait → exec (.bayReports .network tag payload) s =
      .next ((t.closeSession x.bay .unplugged .vacant).respond .network tag 0x20 .ok
        (.reports [⟨x.bay, .vacant, none⟩])))

/-- A bay taken OUT of service goes to OUT_OF_SERVICE and its grants become 0 at once, with an epoch if the issued grant was
not 0 (R58, R99); a VACANT or DONE bay as written here, a WAITING bay also leaves the Slot Wait List, an ACTIVE or FALLBACK
bay's session closes first. IN returns it to VACANT (R59); an OUT for a bay already out, an IN for any other, change nothing.
Another length, another choice and an unknown bay are refused (R58); that another choice comes before an unknown bay is the
model's choice (log 30). -/
def Obligations.ServiceChanges : Prop :=
  (∀ (tag : Byte) (s : State), s.Ready .network →
    let refused (payload : List Byte) (st : Status) : Prop :=
      exec (.setBayService .network tag payload) s = .next ((s.arrive .network).respond .network tag 0x24 st .empty)
    (∀ payload : List Byte, payload.length ≠ 2 → refused payload .badRequest) ∧
    (∀ k c : Byte, 2 ≤ c.toNat → refused [k, c] .badRequest) ∧
    ∀ k c : Byte, c.toNat ≤ 1 → k.toNat = 0 ∨ s.cfg.bayCount < k.toNat → refused [k, c] .unknownBay) ∧
  ∀ (tag k : Byte) (b : BayRec) (s : State), s.Ready .network →
    let a := s.arrive .network
    1 ≤ k.toNat → k.toNat ≤ s.cfg.bayCount → s.bay k.toNat = some b →
    ((b.state = .active ∨ b.state = .fallback) → k.toNat ∉ s.bt.slotWait) →
    let answer (st : BayState) (n : Option Nat) (t : State) : Host.Outcome State Fault Refusal :=
      .next (t.respond .network tag 0x24 .ok (.service st n))
    let out (t : State) : State :=
      let cleared (y : GrantRec) : GrantRec :=
        { y with g := 0, a := 0, deferred := false, mismatch := none, overdue := false }
      if (a.grant k.toNat).g = 0 then
        { t with gt := { a.gt with grants := a.gt.grants.map fun y => if y.bay = k.toNat then cleared y else y } }
      else
        State.raise .network .grantsChanged (.num (a.gt.eg + 1)) (.num 0) { t with gt := { a.gt with
          eg := a.gt.eg + 1
          grants := a.gt.grants.map fun y => if y.bay = k.toNat then { cleared y with e := a.gt.eg + 1 } else y } }
    let moved (st : BayState) : List BayRec := s.bt.bays.map fun y => if y.number = k.toNat then
      { y with state := st, stale := false, fallbackStart := none } else y
    (a.gt.eg < Config.maxWord →
      ((b.state = .vacant ∨ b.state = .done) → exec (.setBayService .network tag [k, 0]) s =
        answer .outOfService none (out { a with bt := { s.bt with bays := moved .outOfService } })) ∧
      (b.state = .waiting → exec (.setBayService .network tag [k, 0]) s =
        answer .outOfService none (out { a with bt := {
          bays := moved .outOfService
          slotWait := s.bt.slotWait.filter fun j => decide (j ≠ k.toNat) } })) ∧
      ((b.state = .active ∨ b.state = .fallback) → exec (.setBayService .network tag [k, 0]) s =
        answer .outOfService b.session (out (a.closeSession k.toNat .outOfService .outOfService)))) ∧
    (b.state = .outOfService →
      exec (.setBayService .network tag [k, 0]) s = answer .outOfService none a ∧
      exec (.setBayService .network tag [k, 1]) s =
        answer .vacant none { a with bt := { s.bt with bays := moved .vacant } }) ∧
    (b.state ≠ .outOfService → exec (.setBayService .network tag [k, 1]) s = answer b.state none a)

/-- END SESSION closes an ACTIVE bay's session with the END_SESSION cause, the bay is DONE, and the answer names the session;
in CONFIGURE, for an unknown bay, in any other state and with another length it is refused (R60); that CONFIGURE comes before an
unknown bay is the model's choice (log 30). -/
def Obligations.EndSessionCloses : Prop :=
  ∀ (tag k : Byte) (s : State), s.Ready .network →
    let a := s.arrive .network
    let refused (st : Status) : Host.Outcome State Fault Refusal := .next (a.respond .network tag 0x23 st .empty)
    (∀ payload : List Byte, payload.length ≠ 1 → exec (.endSession .network tag payload) s = refused .badRequest) ∧
    (s.site = .configure → exec (.endSession .network tag [k]) s = refused .badState) ∧
    (s.site = .run → (k.toNat = 0 ∨ s.cfg.bayCount < k.toNat) →
      exec (.endSession .network tag [k]) s = refused .unknownBay) ∧
    ∀ b, s.site = .run → 1 ≤ k.toNat → k.toNat ≤ s.cfg.bayCount → s.bay k.toNat = some b →
      (b.state = .active → exec (.endSession .network tag [k]) s =
        .next ((a.closeSession k.toNat .endSession .done).respond .network tag 0x23 .ok (.closed b.session))) ∧
      (b.state ≠ .active → exec (.endSession .network tag [k]) s = refused .badState)

/-! ### Sessions and receipts -/

/-- A reading below the base sets METER_BACK and takes no energy; any other takes its rise, limited by the connector over Δt
and by the range of metered Wh, with CLAMPED where a limit cut it (R119). Credit pays first (R120); the rest is filed in the
entry with the key of the band lookup, or in a new last entry with the band's PEAK flag, or, with 8 entries and none of that
key, in the last entry, with TARIFF_MERGED (R121). What is metered is what is filed; every other field is kept. -/
def Obligations.ReadingBecomesIncrement : Prop :=
  (∀ (reading dt connectorMax : Nat) (key : Nat × Band) (x : Session),
    (reading < x.base → x.takeReading reading dt connectorMax key =
      { x with base := reading, flags := { x.flags with meterBack := true } }) ∧
    (x.base ≤ reading →
      let inc := min (min (reading - x.base) (min (connectorMax * dt / 28800 + 10) 4294967295))
        (4294967295 - x.metered)
      let paid := min inc x.creditLeft
      let y := x.takeReading reading dt connectorMax key
      y = { x with
        base := reading
        metered := x.metered + inc
        free := x.free + paid
        creditLeft := x.creditLeft - paid
        bands := y.bands
        flags := { x.flags with
          clamped := x.flags.clamped || decide (inc < reading - x.base)
          tariffMerged := y.flags.tariffMerged } } ∧
      total (y.bands.map (·.wh)) = total (x.bands.map (·.wh)) + (inc - paid) ∧
      (inc = paid → y.bands = x.bands ∧ y.flags.tariffMerged = x.flags.tariffMerged) ∧
      (∀ e ∈ x.bands, e.index = key.1 → e.price = key.2.price → y.flags.tariffMerged = x.flags.tariffMerged) ∧
      (x.bands.length < 8 → y.flags.tariffMerged = x.flags.tariffMerged))) ∧
  (∀ (reading dt connectorMax : Nat) (key : Nat × Band) (x : Session), x.base ≤ reading →
    let y := x.takeReading reading dt connectorMax key
    let rest := (y.metered - x.metered) - (y.free - x.free)
    let named (e : BandEntry) : Prop := e.index = key.1 ∧ e.price = key.2.price
    rest ≠ 0 →
    (∀ l e r, x.bands = l ++ e :: r → (∀ d ∈ l, ¬ named d) → named e →
      y.bands = l ++ { e with wh := e.wh + rest } :: r) ∧
    ((∀ d ∈ x.bands, ¬ named d) → x.bands.length < 8 →
      y.bands = x.bands ++ [⟨key.1, key.2.price, key.2.peak, rest⟩]) ∧
    (∀ l e, (∀ d ∈ x.bands, ¬ named d) → 8 ≤ x.bands.length → x.bands = l ++ [e] →
      y.bands = l ++ [{ e with wh := e.wh + rest }] ∧ y.flags.tariffMerged = true))

/-- The band lookup (R13): the last band whose start is not after the minute, or the last band of all before the first
start. -/
def Obligations.BandLookupFindsCurrentBand : Prop :=
  ∀ (t : List Band) (minute : Nat), (t.map (·.start)).Pairwise (· < ·) → t ≠ [] →
    1 ≤ bandIndex t minute ∧ bandIndex t minute ≤ t.length ∧
    (∀ b, t[bandIndex t minute - 1]? = some b → (∃ c ∈ t, c.start ≤ minute) → b.start ≤ minute ∧
      ∀ c ∈ t, c.start ≤ minute → c.start ≤ b.start) ∧
    ((∀ c ∈ t, minute < c.start) → bandIndex t minute = t.length) ∧
    ∀ s : State, s.ls.active.tariff = t → s.tb.minuteOfDay = minute →
      s.lookup.1 = bandIndex t minute ∧ t[s.lookup.1 - 1]? = some s.lookup.2

/-- A closing session is stamped, its bay unbinds and its voucher leaves the list (R124). With room in the queue (here with no
bay waiting) its receipt, with the session's fields (R143) and the owed set of R147, joins the tail of the queue with the next
number, and the record leaves the table; with the queue full the session stays as PENDING_RECEIPT at the tail of the pending
order, and no slot is freed (R125). -/
def Obligations.ClosingReceiptsOrWaits : Prop :=
  (∀ (k n : Nat) (cause : CloseCause) (st : BayState) (b : BayRec) (x : Session) (s : State),
    s.bay k = some b → b.session = some n → s.session n = some x →
    s.hasRoom = true → s.bt.slotWait = [] →
    ∃ r : Receipt,
      s.closeSession k cause st = { s with
        bt := { s.bt with bays := s.bt.bays.map fun y => if y.number = k then
          { y with state := st, stale := false, fallbackStart := none, session := none } else y }
        st := { s.st with sessions := s.st.sessions.filter fun y => decide (y.number ≠ n) }
        vl := { vouchers := s.vl.vouchers.filter fun v => decide (x.voucher ≠ some v.number) }
        rq := { s.rq with
          receipts := s.rq.receipts ++ [r]
          nextReceipt := if s.rq.nextReceipt = 4294967295 then 4294967295 else s.rq.nextReceipt + 1
          exhausted := s.rq.exhausted || decide (s.rq.nextReceipt = 4294967295) } } ∧
      r.number = s.rq.nextReceipt ∧ r.session = n ∧ r.bay = x.bay ∧ r.start = x.start ∧
      r.stop = some ⟨s.tb.monoMin, s.tb.minuteOfDay⟩ ∧ r.cause = some cause ∧
      r.total = x.free + total (x.bands.map (·.wh)) ∧ r.free = x.free ∧ r.voucher = x.voucher ∧
      r.creditGranted = x.creditGranted ∧ r.entries = x.bands.map priceEntry ∧
      r.charge = total (r.entries.map (·.cents)) ∧
      r.flags = { x.flags with
        clockUnset := x.flags.clockUnset || !s.tb.clockSet
        incomplete := x.flags.incomplete || decide (cause = .abandoned) } ∧
      r.owedNetwork = true ∧ r.owedTill = (x.voucher.isSome && !s.rq.tillReleased) ∧
      r.tillReleased = (x.voucher.isSome && s.rq.tillReleased)) ∧
  (∀ (k n : Nat) (cause : CloseCause) (st : BayState) (b : BayRec) (x : Session) (s : State),
    s.bay k = some b → b.session = some n → s.session n = some x → s.hasRoom = false →
    s.closeSession k cause st = { s with
      bt := { s.bt with bays := s.bt.bays.map fun y => if y.number = k then
        { y with state := st, stale := false, fallbackStart := none, session := none } else y }
      st := { s.st with
        sessions := s.st.sessions.map fun y => if y.number = n then
          { y with
            state := .pendingReceipt
            stop := some ⟨s.tb.monoMin, s.tb.minuteOfDay⟩
            cause := some cause
            flags := { y.flags with
              clockUnset := y.flags.clockUnset || !s.tb.clockSet
              incomplete := y.flags.incomplete || decide (cause = .abandoned) } } else y
        pendingOrder := s.st.pendingOrder ++ [n] }
      vl := { vouchers := s.vl.vouchers.filter fun v => decide (x.voucher ≠ some v.number) } })

/-- Each band entry of a receipt is priced on its own at its own price, rounded half up to a cent, and the charge is the sum
of the entries' cents; energy paid from credit is in no entry (R144). -/
def Obligations.ReceiptEntriesArePriced : Prop :=
  ∀ (x : Session) (s : State),
    (s.receiptOf x).entries.length = x.bands.length ∧
    (∀ (i : Nat) (e : BandEntry), x.bands[i]? = some e → (s.receiptOf x).entries[i]? =
      some ⟨e.index, e.price, e.peak, e.wh, (e.wh * e.price + 5000) / 10000⟩) ∧
    (s.receiptOf x).charge = total (x.bands.map fun e => (e.wh * e.price + 5000) / 10000) ∧
    (∀ e ∈ (s.receiptOf x).entries, e.price = 0 → e.cents = 0) ∧
    (x.bands.length ≤ 8 → x.free + total (x.bands.map (·.wh)) ≤ 4294967295 → (∀ e ∈ x.bands, e.price ≤ 65535) →
      (s.receiptOf x).charge ≤ 28147068172)

/-- A freed place takes the oldest pending session: its receipt joins the queue and its record leaves the table (R126). The
freed slot admits the head of the Slot Wait List, whose session opens as R117 gives it at the bay's last reading, in ACTIVE with
port N PRESENT and in FALLBACK with it LAPSED (R118, R55); with an empty list the slot stays free. Without a pending session the
place stays free, and an exhausted receipt number refuses it (R145). Several places are handed over one after the other: the
pending sessions are receipted in closing order, and as many waiting bays leave the list in its order (R126). -/
def Obligations.FreedPlaceAdmitsHead : Prop :=
  (∀ (n : Nat) (rest : List Nat) (x : Session) (s : State), s.hasRoom = true →
    s.st.pendingOrder = n :: rest → s.session n = some x →
    let kept := s.st.sessions.filter fun y => decide (y.number ≠ n)
    let t : State := { s with st := { s.st with sessions := kept } }
    let rq : ReceiptQueue := { s.rq with
      receipts := s.rq.receipts ++ [s.receiptOf x]
      nextReceipt := if s.rq.nextReceipt = 4294967295 then 4294967295 else s.rq.nextReceipt + 1
      exhausted := s.rq.exhausted || decide (s.rq.nextReceipt = 4294967295) }
    (s.bt.slotWait = [] → State.fillPlaces 1 s = { s with
      st := { s.st with sessions := kept, pendingOrder := rest }
      rq := rq }) ∧
    ∀ k wait b, s.bt.slotWait = k :: wait → s.bay k = some b →
      State.fillPlaces 1 s = { s with
        bt := {
          bays := s.bt.bays.map fun z => if z.number = k then
            { z with state := if s.isPresent .network then .active else .fallback,
                     fallbackStart := if s.isPresent .network then none else some s.tb.monoMin,
                     session := some t.newNumber, hold := 0, promo := 0 } else z
          slotWait := wait }
        st := {
          sessions := kept ++ [
            { number := t.newNumber, bay := k, state := .opened, start := ⟨s.tb.monoMin, s.tb.minuteOfDay⟩, stop := none,
              cause := none, base := b.lastReading, metered := 0, voucher := none, creditGranted := 0, creditLeft := 0,
              free := 0, bands := [], flags := ⟨false, false, false, false, !s.tb.clockSet, false⟩ }]
          pendingOrder := rest
          nextSession := if t.newNumber = 65535 then 1 else t.newNumber + 1 }
        rq := rq }) ∧
  (∀ (places : Nat) (s : State), s.st.pendingOrder = [] ∨ s.rq.exhausted = true → State.fillPlaces places s = s) ∧
  (∀ (places more : Nat) (s : State),
    State.fillPlaces (places + more) s = State.fillPlaces more (State.fillPlaces places s)) ∧
  ∀ (places : Nat) (s : State), s.SessionsOk → s.st.pendingOrder.Nodup →
    (∀ n ∈ s.st.pendingOrder, (s.session n).isSome = true) →
    s.rq.exhausted = false → s.rq.receipts.length + places ≤ 64 → s.rq.nextReceipt + places ≤ 4294967296 →
    let t := State.fillPlaces places s
    t.rq.receipts.map (·.session) = s.rq.receipts.map (·.session) ++ s.st.pendingOrder.take places ∧
    t.st.pendingOrder = s.st.pendingOrder.drop places ∧
    t.bt.slotWait = s.bt.slotWait.drop (min places s.st.pendingOrder.length)

/-- READ SESSION on port N or E, by number or by the bay that names the session, returns the record with its place in the
admission order, its place in the pending order or the key a rest would be filed under, and changes no state. A number that
no record holds and a bay that names no session give EMPTY; other values are refused (R128), and so is a payload of another
length (log 22). That the value has 16 bits is the model's choice (log 31). -/
def Obligations.ReadSessionReturnsRecord : Prop :=
  ∀ (p : Port) (tag : Byte) (s : State), p = .network ∨ p = .energy → s.Ready p →
    let answered (body : Body SessionSelector) (st : Status) (reply : Reply) : Prop :=
      exec (.readSession p tag body) s = .next ((s.arrive p).respond p tag 0x1A st reply)
    let known (k : Half) : Prop := 1 ≤ k.toNat ∧ k.toNat ≤ s.cfg.bayCount
    (∀ (sel : SessionSelector) (n : Nat) (x : Session), s.session n = some x →
      ((∃ v : Half, v ≠ 0 ∧ n = v.toNat ∧ sel = .number v) ∨
        (∃ (k : Half) (b : BayRec), known k ∧ s.bay k.toNat = some b ∧ b.session = some n ∧ sel = .bay k)) →
      ∃ r : SessionReply, answered (.fields sel) .ok (.session r) ∧ r.record = x ∧ 1 ≤ r.place ∧
        s.st.sessions[r.place - 1]? = some x ∧
        (x.state = .opened → r.pendingPlace = none ∧ r.bandKey = some (s.lookup.1, s.lookup.2.price)) ∧
        (x.state = .pendingReceipt → r.bandKey = none ∧
          r.pendingPlace = placeOf (· == x.number) s.st.pendingOrder)) ∧
    (∀ v : Half, v ≠ 0 → s.session v.toNat = none → answered (.fields (.number v)) .empty .empty) ∧
    (∀ (k : Half) (b : BayRec), known k → s.bay k.toNat = some b → b.session = none →
      answered (.fields (.bay k)) .empty .empty) ∧
    (∀ k : Half, ¬ known k → answered (.fields (.bay k)) .unknownBay .empty) ∧
    answered (.fields (.number 0)) .badRequest .empty ∧ answered (.fields .other) .badRequest .empty ∧
    answered .misfit .badRequest .empty

/-- PEEK RECEIPT returns the oldest receipt owed to the asking port, port N or port T, with the number owed to it, or EMPTY;
it changes no state, and a non-empty payload refuses it (R148). -/
def Obligations.PeekReturnsOldestOwed : Prop :=
  ∀ (p : Port) (tag : Byte) (s : State), p = .network ∨ p = .till → s.Ready p →
    (∀ l r rest, s.rq.receipts = l ++ r :: rest → (∀ q ∈ l, q.owedTo p = false) → r.owedTo p = true →
      exec (.peekReceipt p tag []) s = .next ((s.arrive p).respond p tag 0x40 .ok
        (.receipt ((r :: rest).filter (·.owedTo p)).length r))) ∧
    ((∀ q ∈ s.rq.receipts, q.owedTo p = false) →
      exec (.peekReceipt p tag []) s = .next ((s.arrive p).respond p tag 0x40 .empty .empty)) ∧
    ∀ b l, exec (.peekReceipt p tag (b :: l)) s = .next ((s.arrive p).respond p tag 0x40 .badRequest .empty)

/-- TAKE RECEIPT of the asking port's oldest owed receipt removes the port from its owed set; owed to nobody, the receipt
leaves the queue and its place is handed to the oldest pending session (R149, R146). Any other number is OUT_OF_ORDER and
changes nothing. Either answer names the port's oldest owed receipt, or 0. A payload of a wrong length is refused. -/
def Obligations.TakeReceiptSettles : Prop :=
  ∀ (p : Port) (tag : Byte) (n : Word) (s : State), p = .network ∨ p = .till → s.Ready p → s.ReceiptsOk →
    let a := s.arrive p
    let owed (t : State) : List Receipt := t.rq.receipts.filter fun r => r.owedTo p
    let answer (t : State) (st : Status) : Host.Outcome State Fault Refusal :=
      .next (t.respond p tag 0x41 st (.oldest (((owed t).head?.map (·.number)).getD 0)))
    exec (.takeReceipt p tag .misfit) s = .next (a.respond p tag 0x41 .badRequest .empty) ∧
    ((∀ r rest, owed s = r :: rest → r.number ≠ n.toNat) →
      exec (.takeReceipt p tag (.fields n)) s = answer a .outOfOrder) ∧
    (∀ r rest, owed s = r :: rest → r.number = n.toNat →
      let after := s.rq.receipts.map fun (r : Receipt) => if r.number = n.toNat then
        { r with owedNetwork := r.owedNetwork && decide (p ≠ .network),
                 owedTill := r.owedTill && decide (p ≠ .till) } else r
      let kept := after.filter fun r => r.owedNetwork || r.owedTill
      let t := State.fillPlaces (after.length - kept.length) { a with rq := { a.rq with receipts := kept } }
      exec (.takeReceipt p tag (.fields n)) s = answer t .ok ∧ after.length - kept.length ≤ 1 ∧
      (s.st.pendingOrder = [] → t = { a with rq := { a.rq with receipts := kept } }))

/-! ### Grants -/

/-- READ GRANTS answers with both epochs and, for each in-service bay in ascending bay number, its grants, its epoch lag and
its marks, and changes no state (R97). Its rule refuses no payload (log 7). -/
def Obligations.ReadGrantsListsBays : Prop :=
  ∀ (tag : Byte) (payload : List Byte) (s : State), s.Ready .network →
    let a := s.arrive .network
    ∃ entries : List GrantReply,
      exec (.readGrants .network tag payload) s =
        .next (a.respond .network tag 0x21 .ok (.grants a.gt.eg a.gt.ea entries)) ∧
      entries = ((s.bt.bays.filter fun b =>
          decide (1 ≤ b.number ∧ b.number ≤ s.cfg.bayCount ∧ b.state ≠ .outOfService)).map fun b =>
        { bay := b.number, g := (a.grant b.number).g, a := (a.grant b.number).a,
          lag := min (a.gt.eg - (a.grant b.number).e) 65535, deferred := (a.grant b.number).deferred,
          overdue := (a.grant b.number).overdue }) ∧
      (s.TablesOk → (entries.map (·.bay)).Pairwise (· < ·))

/-- ACK GRANTS (R98): above the grant epoch it is OUT_OF_RANGE; below the acknowledged epoch it changes nothing; else every
bay issued at or before the epoch takes a = g, its mismatch timing and overdue mark end, and the epoch is the acknowledged
one. No issued grant and no epoch of issue changes. That the OUT_OF_RANGE refusal has an empty payload is the model's choice
(log 25): R98 gives the two epochs for no status in particular. -/
def Obligations.AckGrantsConfirms : Prop :=
  ∀ (tag b3 b2 b1 b0 : Byte) (s : State), s.Ready .network →
    let a := s.arrive .network
    let e := b3.toNat * 16777216 + b2.toNat * 65536 + b1.toNat * 256 + b0.toNat
    (a.gt.eg < e → exec (.ackGrants .network tag [b3, b2, b1, b0]) s =
      .next (a.respond .network tag 0x22 .outOfRange .empty)) ∧
    (e ≤ a.gt.eg → e < a.gt.ea → exec (.ackGrants .network tag [b3, b2, b1, b0]) s =
      .next (a.respond .network tag 0x22 .ok (.epochs a.gt.eg a.gt.ea))) ∧
    (e ≤ a.gt.eg → a.gt.ea ≤ e → exec (.ackGrants .network tag [b3, b2, b1, b0]) s =
      .next (State.respond .network tag 0x22 .ok (.epochs a.gt.eg e) { a with gt := { a.gt with
        ea := e
        grants := a.gt.grants.map fun x => if x.e ≤ e then { x with a := x.g, mismatch := none, overdue := false }
          else x } })) ∧
    ∀ payload : List Byte, payload.length ≠ 4 → exec (.ackGrants .network tag payload) s =
      .next (a.respond .network tag 0x22 .badRequest .empty)

/-- The power a raise issues is the greatest above the issued grant and not above the target that is at least the bay min and
leaves the bay's committed value within its room; without one there is no raise. In the issue of a round, over tables with
one record for each bay, a target below the issued grant is issued at once and no grant passes a target above it. The bays
of the OPEN sessions are raised in admission order, each into what the budget leaves beside the other bays' committed values
after the reductions and the raises before it; no other bay is raised (R95). The DEFERRED marks tell which targets are not met
(R96); acknowledged grants stay, and the mismatch timing starts, is kept or ends with each grant that changed (R100). An epoch
is taken exactly when an issued grant changed, by the bays whose grant changed (R94). -/
def Obligations.IssueLowersThenRaises : Prop :=
  (∀ (bayMin : Nat) (room : Int) (g a t : Nat),
    let fits (v : Nat) : Prop := g < v ∧ v ≤ t ∧ bayMin ≤ v ∧ (v : Int) ≤ room ∧ (a : Int) ≤ room
    (∀ v, raiseTo bayMin room g a t = some v ↔ fits v ∧ ∀ w, fits w → w ≤ v) ∧
    (raiseTo bayMin room g a t = none ↔ ∀ v, ¬ fits v)) ∧
  (∀ (targets : List (Nat × Nat)) (cb : Nat) (s : State), s.TablesOk → (targets.map (·.1)).Nodup →
    let t := s.issueTargets targets cb
    let changed := ∃ x ∈ s.gt.grants, (t.grant x.bay).g ≠ x.g
    let eg := if s.gt.eg = Config.maxWord then Config.maxWord else s.gt.eg + 1
    let order := (s.st.sessions.filter fun x => decide (x.state = .opened)).map (·.bay)
    ∃ gt sp, t = { s with gt := gt, sp := sp } ∧ t.gt.grants.map (·.bay) = s.gt.grants.map (·.bay) ∧
      (∀ x ∈ s.gt.grants,
        let y := t.grant x.bay
        y.a = x.a ∧
        (∀ v, (x.bay, v) ∈ targets → v < x.g → y.g = v) ∧
        (∀ v, (x.bay, v) ∈ targets → x.g ≤ v → x.g ≤ y.g ∧ y.g ≤ v ∧
          (y.g ≠ x.g → s.cfg.bayMin ≤ y.g ∧ (s.isInService x.bay = true → t.committedSum ≤ cb))) ∧
        (∀ v, (x.bay, v) ∈ targets → x.g ≤ v → x.bay ∉ order → y.g = x.g) ∧
        ((∀ v, (x.bay, v) ∉ targets) → y.g = x.g ∧ y.deferred = false) ∧
        (∀ v, (x.bay, v) ∈ targets → y.deferred = decide (y.g < v)) ∧
        (y.e = if y.g = x.g then x.e else eg) ∧
        (y.g = x.g → y.mismatch = x.mismatch ∧ y.overdue = x.overdue) ∧
        (y.g ≠ x.g → y.g = x.a → y.mismatch = none ∧ y.overdue = false) ∧
        (y.g ≠ x.g → y.g ≠ x.a → y.overdue = x.overdue ∧
          y.mismatch = if x.g = x.a then some s.tb.ms else x.mismatch)) ∧
      (s.SessionsOk → s.BindingsOk → order.Nodup) ∧
      (∀ l k r v, order = l ++ k :: r → order.Nodup → s.isInService k = true → (k, v) ∈ targets → (s.grant k).g < v →
        let reduced (j : Nat) : Nat := min (s.grant j).g ((targetOf targets j).getD (s.grant j).g)
        let others := total ((s.inServiceBays.filter fun b => decide (b.number ≠ k)).map fun b =>
          max (if b.number ∈ l then (t.grant b.number).g else reduced b.number) (s.grant b.number).a)
        (t.grant k).g =
          (raiseTo s.cfg.bayMin ((cb : Int) - others) (s.grant k).g (s.grant k).a v).getD (s.grant k).g) ∧
      (¬ changed → t.gt.eg = s.gt.eg ∧ t.sp = s.sp) ∧
      (changed → t.gt.eg = eg ∧ t.sp = (s.raise .network .grantsChanged (.num eg) (.num 0)).sp))

/-! ### Vouchers -/

/-- POST VOUCHER (R133, R134): its checks in their order, and the UNCLAIMED record it appends, with the lesser of the cap and
the rate for each whole currency unit as its credit, and the validity added to the minute as its expiry. That the till number
has 8 bits is the model's choice (log 31). -/
def Obligations.PostVoucherAppends : Prop :=
  ∀ (tag : Byte) (q : PostFields) (s : State), s.Ready .till →
    let a := s.arrive .till
    let refused (st : Status) : Prop :=
      exec (.postVoucher .till tag (.fields q)) s = .next (a.respond .till tag 0x30 st .empty)
    let held := ∃ v ∈ s.vl.vouchers, v.number = q.number.toNat
    let bad := q.number = 0 ∨ q.till = 0 ∨ 63 < q.till.toNat
    let credit := min s.cfg.voucherCap (q.basket.toNat / 100 * s.cfg.voucherRate)
    let expiry := s.tb.monoMin + s.cfg.voucherValidity
    exec (.postVoucher .till tag .misfit) s = .next (a.respond .till tag 0x30 .badRequest .empty) ∧
    (bad → refused .badRequest) ∧ (¬ bad → held → refused .duplicate) ∧
    (¬ bad → ¬ held → q.basket.toNat < s.cfg.minBasket → refused .belowMinimum) ∧
    (¬ bad → ¬ held → s.cfg.minBasket ≤ q.basket.toNat → 48 ≤ s.vl.vouchers.length → refused .listFull) ∧
    (¬ bad → ¬ held → s.cfg.minBasket ≤ q.basket.toNat → s.vl.vouchers.length < 48 → expiry ≤ Config.maxWord →
      exec (.postVoucher .till tag (.fields q)) s =
        .next (State.respond .till tag 0x30 .ok (.posted credit expiry) { a with vl := { vouchers := s.vl.vouchers ++ [
          { number := q.number.toNat, till := q.till.toNat, basket := q.basket.toNat, credit := credit,
            posted := s.tb.monoMin, expiry := expiry, state := .unclaimed, session := none, bay := none }] } }))

/-- CLAIM VOUCHER (R135, R136): its checks in their order, and the claim, which binds the voucher to the ACTIVE bay's session
and gives the session the voucher's number and credit (R123). That the bay number has 8 bits is the model's choice (log 31). -/
def Obligations.ClaimVoucherBinds : Prop :=
  ∀ (tag : Byte) (q : ClaimFields) (s : State), s.Ready .network →
    let a := s.arrive .network
    let k := q.bay.toNat
    let m := q.number.toNat
    let refused (st : Status) : Prop :=
      exec (.claimVoucher .network tag (.fields q)) s = .next (a.respond .network tag 0x25 st .empty)
    let known := 1 ≤ k ∧ k ≤ s.cfg.bayCount
    exec (.claimVoucher .network tag .misfit) s = .next (a.respond .network tag 0x25 .badRequest .empty) ∧
    (s.site = .configure → refused .badState) ∧
    (s.site = .run → ¬ known → refused .unknownBay) ∧
    (s.site = .run → known → s.voucher m = none → refused .unknownVoucher) ∧
    ∀ v, s.site = .run → known → s.voucher m = some v →
      (v.state ≠ .unclaimed → refused .notClaimable) ∧
      ∀ b, v.state = .unclaimed → s.bay k = some b →
        (b.state ≠ .active → refused .badState) ∧
        ∀ n x, b.state = .active → b.session = some n → s.session n = some x →
          (x.voucher ≠ none → refused .badState) ∧
          (x.voucher = none →
            exec (.claimVoucher .network tag (.fields q)) s =
              .next (State.respond .network tag 0x25 .ok (.claimed n v.credit) { a with
                vl := { vouchers := s.vl.vouchers.map fun y => if y.number = m then
                  { y with state := .claimed, session := some n, bay := some k } else y }
                st := { s.st with sessions := s.st.sessions.map fun y => if y.number = n then
                  { y with voucher := some m, creditGranted := v.credit, creditLeft := v.credit } else y } }))

/-- WITHDRAW VOUCHER (R138): an absent number is UNKNOWN_VOUCHER; an UNCLAIMED record leaves the list; a CLAIMED one becomes
WITHDRAWN, and its session loses the credit left and takes the WITHDRAWN flag (R123); a WITHDRAWN one repeats the answer. -/
def Obligations.WithdrawVoucherEndsCredit : Prop :=
  ∀ (tag : Byte) (m : Word) (s : State), s.Ready .till →
    let a := s.arrive .till
    let answered (t : State) (st : Status) (r : Reply) : Prop :=
      exec (.withdrawVoucher .till tag (.fields m)) s = .next (t.respond .till tag 0x31 st r)
    exec (.withdrawVoucher .till tag .misfit) s = .next (a.respond .till tag 0x31 .badRequest .empty) ∧
    (s.voucher m.toNat = none → answered a .unknownVoucher .empty) ∧
    ∀ v, s.voucher m.toNat = some v →
      (v.state = .unclaimed →
        answered { a with vl := { vouchers := s.vl.vouchers.filter fun y => decide (y.number ≠ m.toNat) } } .ok
          (.withdrawn .removed)) ∧
      ∀ n x, v.session = some n → s.session n = some x →
        (v.state = .claimed →
          answered { a with
            vl := { vouchers := s.vl.vouchers.map fun y => if y.number = m.toNat then { y with state := .withdrawn }
              else y }
            st := { s.st with sessions := s.st.sessions.map fun y => if y.number = n then
              { y with creditLeft := 0, flags := { y.flags with withdrawn := true } } else y } } .ok
            (.withdrawn (.withdrawn (some n) v.bay x.free))) ∧
        (v.state = .withdrawn → answered a .ok (.withdrawn (.withdrawn (some n) v.bay x.free)))

/-- READ BAY returns every field of a known bay's record, with the age of its last report, its time in FALLBACK, its bay max
and bay min, its place on the Slot Wait List and its grants (R65, R46). READ VOUCHER returns the record with its place in the
posting order, the number of records, the minutes left of an UNCLAIMED voucher and the bound session's credit and free Wh of
any other (R140). Neither changes any state; an unknown name or a wrong length is refused. -/
def Obligations.BayAndVoucherReadsReturn : Prop :=
  (∀ (tag k : Byte) (s : State), s.Ready .network →
    let a := s.arrive .network
    (∀ b, 1 ≤ k.toNat → k.toNat ≤ s.cfg.bayCount → s.bay k.toNat = some b →
      exec (.readBay .network tag [k]) s = .next (a.respond .network tag 0x26 .ok (.bay
        { number := b.number, state := b.state, plugged := b.plugged, request := b.request, measured := b.measured,
          connectorMax := b.connectorMax, lastReading := b.lastReading, reportAge := (s.tb.ms - b.lastReport).toNat,
          stale := b.stale, fallback := b.fallbackStart.map fun m => (m, s.tb.monoMin - m), hold := b.hold,
          promo := b.promo, session := b.session, bayMax := min b.connectorMax s.cfg.perBayCap,
          bayMin := s.cfg.bayMin, place := placeOf (· == b.number) s.bt.slotWait, g := (a.grant b.number).g,
          a := (a.grant b.number).a, e := (a.grant b.number).e }))) ∧
    (k.toNat = 0 ∨ s.cfg.bayCount < k.toNat →
      exec (.readBay .network tag [k]) s = .next (a.respond .network tag 0x26 .unknownBay .empty)) ∧
    ∀ payload : List Byte, payload.length ≠ 1 →
      exec (.readBay .network tag payload) s = .next (a.respond .network tag 0x26 .badRequest .empty)) ∧
  (∀ (tag : Byte) (m : Word) (s : State), s.Ready .till →
    let a := s.arrive .till
    exec (.readVoucher .till tag .misfit) s = .next (a.respond .till tag 0x32 .badRequest .empty) ∧
    (s.voucher m.toNat = none → exec (.readVoucher .till tag (.fields m)) s =
      .next (a.respond .till tag 0x32 .unknownVoucher .empty)) ∧
    ∀ v, s.voucher m.toNat = some v →
      ∃ r : VoucherReply, exec (.readVoucher .till tag (.fields m)) s =
          .next (a.respond .till tag 0x32 .ok (.voucher r)) ∧
        r.record = v ∧ 1 ≤ r.place ∧ s.vl.vouchers[r.place - 1]? = some v ∧ r.count = s.vl.vouchers.length ∧
        (v.state = .unclaimed → r.minutesLeft = some (v.expiry + 1 - s.tb.monoMin) ∧ r.credit = none) ∧
        (v.state ≠ .unclaimed → r.minutesLeft = none ∧
          ∀ n x, v.session = some n → s.session n = some x → r.credit = some (x.creditLeft, x.free)))

/-! ### The lines and the time base -/

/-- The line events (R153 to R156). A character is stored up to the 245th and counted; a completed frame is discarded under
the first check it fails, adding 1 to that counter; one that completes during a response counts as OVERRUN; an unknown
command is answered BAD_REQUEST and restores no presence; a response ends; a gap readies the receiver. The model's choices are
that a bad frame that ends during a response counts OVERRUN alone (log 9) and that an event without its condition changes
nothing (log 4). -/
def Obligations.LineEventsActOnPort : Prop :=
  ∀ (p : Port) (s : State), s.held = none →
    let x := s.port p
    let put (y : PortState) : Host.Outcome State Fault Refusal := .next { s with sp := s.sp.set p y }
    let overrun := put { x with overrun := min (x.overrun + 1) 65535, rx := Receiver.ready }
    let bad := x.rx.bytes.length < 4 ∨ ∃ len : Byte, x.rx.bytes[2]? = some len ∧ (240 < len.toNat ∨
      x.rx.bytes.length ≠ 4 + len.toNat ∨ (x.rx.bytes.map (·.toNat)).sum % 256 ≠ 0)
    (∀ byte low, x.rx.waitingGap = true → exec (.characterReceived p byte low) s = .next s) ∧
    (∀ byte low, x.rx.waitingGap = false → exec (.characterReceived p byte low) s = put { x with rx :=
      { x.rx with bytes := if x.rx.count < 245 then x.rx.bytes ++ [byte] else x.rx.bytes,
                  count := x.rx.count + 1, stopLow := x.rx.stopLow || low } }) ∧
    exec (.receiverGap p) s =
      put { x with rx := if x.rx.waitingGap = true then ⟨false, [], 0, false⟩ else x.rx } ∧
    exec (.responseEnd p) s = put { x with tx := none } ∧
    (x.tx ≠ none → exec (.overrun p) s = overrun ∧ (x.rx.count ≠ 0 → exec (.frameDiscard p) s = overrun) ∧
      ∀ tag code, code ∉ catalogueCodes → exec (.unknownCommand p tag code) s = overrun) ∧
    (x.tx = none → exec (.overrun p) s = .next s ∧
      (∀ tag code, code ∉ catalogueCodes → exec (.unknownCommand p tag code) s =
        put { x with rx := Receiver.ready, tx := some ⟨tag, code, .badRequest, .empty⟩ }) ∧
      (x.rx.count ≠ 0 → x.rx.stopLow = true → exec (.frameDiscard p) s =
        put { x with framing := min (x.framing + 1) 65535, rx := Receiver.ready }) ∧
      (245 < x.rx.count → x.rx.stopLow = false → exec (.frameDiscard p) s =
        put { x with oversize := min (x.oversize + 1) 65535, rx := Receiver.ready }) ∧
      (x.rx.count ≠ 0 → x.rx.count ≤ 245 → x.rx.stopLow = false → bad → exec (.frameDiscard p) s =
        put { x with badFrame := min (x.badFrame + 1) 65535, rx := Receiver.ready }) ∧
      (x.rx.count ≤ 245 → x.rx.stopLow = false → ¬ bad → exec (.frameDiscard p) s = .next s))

/-- The end of a millisecond period advances the counter and both phases (R1, R2) and makes each output's next duty its
current one (R107); where the round tick that comes with it has made the advance (log 2) only the duties move. A wire is high
in the first microseconds of the period up to the current duty, and low in the rest (R106). A silence or presence limit written
before the advance counts from it (R20, R157). A phase that has reached 60 000 gives the minute event, which counts the minute
(R2), and a till hold written before it counts from it (R150); before that the event changes nothing (log 4). That a phase of
60 000 or more counts on, and that the event subtracts 60 000 from it, is the model's choice (log 3). -/
def Obligations.TimeAdvances : Prop :=
  ∀ s : State, s.held = none →
    let moved (o : Output) : Output := ⟨o.next.getD o.current, none⟩
    let so : Setpoints := ⟨moved s.so.bset, moved s.so.clim⟩
    (∀ (o : Output) (microsecond : Nat), s.wireHigh o microsecond = some (decide (microsecond < o.current))) ∧
    (s.tb.advanceMade = false → exec .periodEnd s = .next { s with
      so := so
      jl := { s.jl with silence := s.cfg.silenceLimit, presenceN := s.cfg.presenceN, presenceT := s.cfg.presenceT,
                        presenceE := s.cfg.presenceE }
      tb := { s.tb with
        ms := s.tb.ms + 1, monoPhase := s.tb.monoPhase + 1, clockPhase := s.tb.clockPhase + 1 } }) ∧
    (s.tb.advanceMade = true → exec .periodEnd s = .next { s with so := so, tb := { s.tb with advanceMade := false } }) ∧
    (60000 ≤ s.tb.monoPhase → s.tb.monoMin < Config.maxWord → exec .monotonicMinuteEvent s = .next { s with
      jl := { s.jl with tillHold := s.cfg.tillHold }
      tb := { s.tb with monoPhase := s.tb.monoPhase - 60000, monoMin := s.tb.monoMin + 1 } }) ∧
    (s.tb.monoPhase < 60000 → exec .monotonicMinuteEvent s = .next s) ∧
    (60000 ≤ s.tb.clockPhase → s.tb.minuteOfDay < 1440 → exec .clockMinuteEvent s = .next { s with tb :=
      { s.tb with clockPhase := s.tb.clockPhase - 60000, minuteOfDay := (s.tb.minuteOfDay + 1) % 1440 } }) ∧
    (s.tb.clockPhase < 60000 → exec .clockMinuteEvent s = .next s)

/-- The tests of a minute event. Every UNCLAIMED voucher past its expiry minute leaves the list, and VOUCHER_EXPIRED merges
one raise for each, with the latest as its subject (R137). In RUN every FALLBACK bay beyond the abandon limit has its session
closed ABANDONED, in ascending bay number, and is DONE (R64). A till silent beyond the till hold, the one in force at the
latest monotonic minute event, is released: its receipts
lose it and carry TILL_RELEASED, those owed to nobody leave, and their places are handed on (R150). That each test is a command
of its own after the minute event is the model's choice (log 16). -/
def Obligations.MinuteEventsSweep : Prop :=
  ∀ s : State, s.held = none →
    (let gone := s.vl.vouchers.filter fun v => decide (v.state = .unclaimed ∧ v.expiry < s.tb.monoMin)
     let kept := s.vl.vouchers.filter fun v => decide (¬ (v.state = .unclaimed ∧ v.expiry < s.tb.monoMin))
     let count (old : Option EventNote) : Nat := (old.map (·.count)).getD 0
     (gone = [] → exec .voucherExpiry s = .next s) ∧
     ∀ l v, gone = l ++ [v] →
       let note : EventNote :=
         ⟨min 255 (count s.sp.till.events.voucherExpired + gone.length), .num v.number, .num 0⟩
       let till : PortState := { s.sp.till with events := { s.sp.till.events with voucherExpired := some note } }
       exec .voucherExpiry s = .next { s with vl := { vouchers := kept }, sp := { s.sp with till := till } }) ∧
    (s.site = .configure → exec .abandonment s = .next s) ∧
    (s.site = .run → exec .abandonment s = .next
      (((s.bt.bays.filter fun b => decide (1 ≤ b.number ∧ b.number ≤ s.cfg.bayCount ∧ b.state = .fallback ∧
          ∃ m ∈ b.fallbackStart, s.cfg.abandonLimit < s.tb.monoMin - m)).map (·.number)).foldl
        (fun t k => t.closeSession k .abandoned .done) s)) ∧
    let due := (s.port .till).presence = .lapsed ∧ s.rq.tillReleased = false ∧
      s.jl.tillHold < s.tb.monoMin - (s.port .till).lapseStart
    (¬ due → exec .tillHoldRelease s = .next s) ∧
    (due →
      let after := s.rq.receipts.map fun (r : Receipt) =>
        if r.owedTill = true then { r with owedTill := false, tillReleased := true } else r
      let kept := after.filter fun r => r.owedNetwork || r.owedTill
      exec .tillHoldRelease s = .next (State.fillPlaces (after.length - kept.length)
        { s with rq := { s.rq with tillReleased := true, receipts := kept } }))

/-- The minute event that brings a window's counter to its end minute ends it in RUN (R39, R40): its entry joins the history
with its planned length, its average and, if D is not 0 and E is above Elim, the OVER mark and DEMAND_EXCEEDED; a window of
full length opens on the boundary against the Active demand limit (R33, R36). That it is a command of its own after the minute
event is the model's choice (log 16). -/
def Obligations.WindowEndRecordsAndReopens : Prop :=
  ∀ (w : Window) (s : State), s.held = none → s.dg.window = some w →
    let counter (b : Basis) : Nat := if b = .clock then s.tb.minuteOfDay else s.tb.monoMin
    (s.site = .configure ∨ counter w.basis ≠ w.endMinute → exec .windowEnd s = .next s) ∧
    (s.site = .run → counter w.basis = w.endMinute →
      (s.cfg.windowLength = 300 ∨ s.cfg.windowLength = 900 ∨ s.cfg.windowLength = 1800) →
      let x : HistoryEntry := ⟨w.basis, w.startMinute, w.length, w.e, min (w.e * 36 / w.length) 65535, w.d, w.elim,
        decide (w.d ≠ 0 ∧ w.elim < w.e), false⟩
      let basis := if s.tb.clockSet = true then Basis.clock else Basis.monotonic
      let m := s.cfg.windowLength / 60
      let boundary := (counter basis / m + 1) * m
      boundary ≤ Config.maxWord →
      let t : State := { s with dg := {
        window := some ⟨basis, counter basis, if basis = .clock then boundary % 1440 else boundary,
          s.cfg.windowLength, s.ls.active.demandLimit, s.ls.active.demandLimit * s.cfg.windowLength / 36, 0⟩
        history := (if s.dg.history.length < 8 then s.dg.history else s.dg.history.drop 1) ++ [x] } }
      exec .windowEnd s = .next (if x.isOver = true
        then t.raise .energy .demandExceeded (.num w.startMinute) (.basis w.basis) else t))

/-- The expiries. A port silent beyond its presence limit lapses, and port N's lapse in RUN moves every ACTIVE bay to FALLBACK
and every in-service bay's grants to 0 and the fallback power (R157, R61, R102); a channel quiet beyond the silence limit is
marked silent, with METER_SILENT (R20); a bay whose grants have differed beyond the acknowledgement limit is marked overdue
(R100); at a due tick an ACTIVE bay without a report within the report limit is marked stale (R57), which is a command of its
own for each bay by the model's deduction (log 17). The presence and silence limits are those in force since the latest
millisecond. Otherwise the event changes nothing (log 4). -/
def Obligations.ExpiriesMark : Prop :=
  ∀ s : State, s.held = none →
    (∀ (p : Port) (limit : Nat) (t : Word), (s.port p).timer = some t →
      limit = (match p with | .network => s.jl.presenceN | .till => s.jl.presenceT | .energy => s.jl.presenceE) →
      let due := (s.port p).presence = .present ∧ limit * 1000 < (s.tb.ms - t).toNat
      let port : PortState := { s.port p with presence := .lapsed, lapseFlag := true, lapseStart := s.tb.monoMin }
      let lapsed : State := { s with sp := s.sp.set p port }
      (¬ due → exec (.presenceExpiry p) s = .next s) ∧
      (due → ¬ (p = .network ∧ s.site = .run) → exec (.presenceExpiry p) s = .next lapsed) ∧
      (due → p = .network → s.site = .run → exec (.presenceExpiry p) s = .next { lapsed with
        bt := { s.bt with bays := s.bt.bays.map fun b => if b.state = .active then
          { b with state := .fallback, stale := false, fallbackStart := some s.tb.monoMin } else b }
        gt := { s.gt with grants := s.gt.grants.map fun x => if s.isInService x.bay = true then
          { x with g := 0, a := s.cfg.fallbackPower, deferred := false, mismatch := none, overdue := false }
          else x } })) ∧
    (∀ c : Channel,
      let due := (s.chanCfg c).enabled = true ∧ (s.chan c).silent = false ∧
        s.jl.silence * 1000 < (s.tb.ms - (s.chan c).silenceRef).toNat
      (¬ due → exec (.silenceExpiry c) s = .next s) ∧
      (due → exec (.silenceExpiry c) s = .next (State.raise .energy .meterSilent (.channel c) (.num 0)
        { s with mi := { s.mi with chan := s.mi.chan.set c { s.chan c with silent := true } } }))) ∧
    (∀ k : Nat,
      let due := s.site = .run ∧ (s.port .network).presence = .present ∧ s.isInService k = true ∧
        (s.grant k).overdue = false ∧ ∃ t ∈ (s.grant k).mismatch, s.cfg.ackLimit * 1000 < (s.tb.ms - t).toNat
      (¬ due → exec (.overdueExpiry k) s = .next s) ∧
      (due → exec (.overdueExpiry k) s = .next { s with gt := { s.gt with grants := s.gt.grants.map fun x =>
        if x.bay = k then { x with overdue := true } else x } })) ∧
    ∀ (k : Nat) (tick : Word), s.tb.nextTick = some tick →
      let due := s.site = .run ∧ s.cfg.roundPeriod * 1000 ≤ (s.tb.ms - (tick - BitVec.ofNat 32 (s.cfg.roundPeriod * 1000))).toNat
      (¬ due → exec (.staleMark k) s = .next s) ∧
      (due → exec (.staleMark k) s = .next { s with bt := { s.bt with bays := s.bt.bays.map fun b =>
        if b.number = k ∧ 1 ≤ k ∧ k ≤ s.cfg.bayCount ∧ b.state = .active ∧
            s.cfg.reportLimit * 1000 < (s.tb.ms - b.lastReport).toNat then { b with stale := true } else b } })

/-- A sample of an enabled channel counts toward its level; at the filter length a level that differs from the accepted one
is accepted (R17), and an accepted change to the active level is a pulse: it counts, times the interval, ends a silence and
is handed to the block that uses it (R18, R26, R27, R35). The events PULSE and INACTIVE_LEVEL_CHANGE are such samples
(log 15), and change nothing where the sample would not bring them about (log 4). -/
def Obligations.SamplesMakePulses : Prop :=
  ∀ (c : Channel) (level : Bool) (s : State), s.held = none →
    let cfg := s.chanCfg c
    let x := s.chan c
    let n := match x.filt with
      | some (l, k) => if l = level then min (k + 1) cfg.filter else 1
      | none => 1
    let put (y : ChannelState) : State := { s with mi := { s.mi with chan := s.mi.chan.set c y } }
    let changes := cfg.enabled = true ∧ n = cfg.filter ∧ x.accepted ≠ some level
    let pulses := changes ∧ x.accepted ≠ none ∧ level = !cfg.falling
    (cfg.enabled = false → exec (.filterSample (.channel c) level) s = .next s) ∧
    (cfg.enabled = true → ¬ changes → exec (.filterSample (.channel c) level) s =
      .next (put { x with filt := some (level, n) })) ∧
    (changes → ¬ pulses →
      exec (.filterSample (.channel c) level) s = .next (put { x with filt := some (level, n), accepted := some level }) ∧
      exec (.inactiveLevelChange c level) s = .next (put { x with filt := some (level, n), accepted := some level })) ∧
    (¬ (changes ∧ ¬ pulses) → exec (.inactiveLevelChange c level) s = .next s) ∧
    (level = !cfg.falling → ¬ pulses → exec (.pulse c) s = .next s) ∧
    (pulses →
      let quiet (t : Word) : Nat := (s.tb.ms - t).toNat
      let t := put { x with
        filt := some (level, n), accepted := some level, pulses := x.pulses + 1, lastPulse := some s.tb.ms,
        silenceRef := s.tb.ms, silent := false, count := if x.count = .zero then .one else .many,
        interval := match x.lastPulse with
          | none => x.interval
          | some l => some (if x.silent = true then max (quiet l) (s.cfg.silenceLimit * 1000 + 1) else quiet l) }
      let after : State := match c with
        | .gridIn => if s.site = .run then { t with dg := { s.dg with window := s.dg.window.map fun w =>
            { w with e := min (w.e + cfg.weight) 4294967295 } } } else t
        | .gridOut => t
        | .canopy => t
        | .battIn => { t with mi := { t.mi with
            soc := min (s.mi.soc + cfg.weight) s.cfg.batteryCapacity
            socClipped := s.mi.socClipped || decide (s.cfg.batteryCapacity < s.mi.soc + cfg.weight) } }
        | .battOut => { t with mi := { t.mi with soc := s.mi.soc - cfg.weight } }
      exec (.filterSample (.channel c) level) s = .next after ∧ exec (.pulse c) s = .next after)

/-- A sample of a bound line is filtered with length 8 (R28). An accepted change to high sets the SoC to the capacity for
BFULL and to 0 for BEMPTY and raises BATTERY_BOUND; a change to low changes the accepted state alone (R29). The events
BOUND_ASSERTION and BOUND_DEASSERTION are such samples (log 15), and change nothing where the sample would not bring them
about (log 4). -/
def Obligations.BoundSamplesSetSoc : Prop :=
  ∀ (b : BoundLine) (level : Bool) (s : State), s.held = none →
    let x := match b with | .bfull => s.mi.bfull | .bempty => s.mi.bempty
    let n := match x.filt with
      | some (l, k) => if l = level then min (k + 1) 8 else 1
      | none => 1
    let put (y : BoundState) : Metering := match b with
      | .bfull => { s.mi with bfull := y }
      | .bempty => { s.mi with bempty := y }
    let changes := n = 8 ∧ x.accepted ≠ some level
    let event := if level = true then exec (.boundAssertion b) s else exec (.boundDeassertion b) s
    let sample := exec (.filterSample (.bound b) level) s
    (¬ changes → sample = .next { s with mi := put { x with filt := some (level, n) } } ∧ event = .next s) ∧
    (changes → level = false →
      sample = .next { s with mi := put ⟨some level, some (level, n)⟩ } ∧ event = sample) ∧
    (changes → level = true →
      sample = .next (State.raise .energy .batteryBound (.bound b) (.num 0) { s with mi :=
        { put ⟨some level, some (level, n)⟩ with soc := if b = .bfull then s.cfg.batteryCapacity else 0 } }) ∧
      event = sample)

/-! ### Resets -/

/-- The release of a held reset decides its kind (R173). A power-up reset, and a pin reset whose retention is not valid, leave
the power-up values for the straps sampled then, with RESTARTED of kind 1 or 3. A pin reset with valid retention keeps the
retained domain and sets the rest as each chapter's reset table gives (R15, R31, R44, R66, R92, R105, R113, R131, R142, R152,
R166), with RESTARTED of kind 2; a site in RUN takes the lapse treatment (R61) and its first tick one round period away (R4).
That a disabled channel's silence reference is 0 after either, of which R31 speaks for an enabled one alone, is the model's
choice (log 13). A release with no reset held changes nothing (log 4). -/
def Obligations.ReleaseDecidesKind : Prop :=
  ∀ (z1 z0 sp : Bool) (s : State),
    let straps : Straps := ⟨z1, z0, sp⟩
    let n := straps.bayCount
    let fresh (kind : Nat) : State := { State.reset with
      straps := straps
      cfg := SiteCfg.default n
      jl := (SiteCfg.default n).judged
      rd := ⟨true, z1, z0⟩
      bt := { bays := (List.range' 1 n).map BayRec.fresh, slotWait := [] }
      gt := { grants := (List.range' 1 n).map GrantRec.fresh, eg := 0, ea := 0 }
      sp := StationPorts.released kind 0
      pending := s.pending }
    let valid := s.rd.marker = true ∧ s.rd.size1 = z1 ∧ s.rd.size0 = z0
    (s.held = none → exec (.resetRelease z1 z0 sp) s = .next s) ∧
    (s.held = some .powerUp → exec (.resetRelease z1 z0 sp) s = .next (fresh 1)) ∧
    (s.held = some .pin → ¬ valid → exec (.resetRelease z1 z0 sp) s = .next (fresh 3)) ∧
    (s.held = some .pin → valid →
      let run := decide (s.site = .run)
      let begun (c : Channel) : ChannelState := ⟨none, none, .zero, none, none, 0, false, (s.chan c).pulses⟩
      exec (.resetRelease z1 z0 sp) s = .next { s with
        jl := s.cfg.judged
        straps := straps
        held := none
        tb := { s.tb with
          ms := 0, monoPhase := 0, clockPhase := 0, advanceMade := false,
          nextTick := if run then some (BitVec.ofNat 32 (s.cfg.roundPeriod * 1000)) else none }
        mi := { chan := ⟨begun .gridIn, begun .gridOut, begun .canopy, begun .battIn, begun .battOut⟩,
                soc := s.mi.soc, socClipped := false, bfull := ⟨none, none⟩, bempty := ⟨none, none⟩ }
        dg := { s.dg with window := if run then s.dg.window else none }
        bt := { s.bt with bays := s.bt.bays.map fun b =>
          if run ∧ b.state = .active then
            { b with lastReport := 0, stale := false, state := .fallback, fallbackStart := some s.tb.monoMin }
          else { b with lastReport := 0, stale := false } }
        al := { loadHistory := [], rotation := s.al.rotation, roundNumber := 0, results := none }
        gt := { s.gt with grants := s.gt.grants.map fun x =>
          if run ∧ s.isInService x.bay = true then
            { x with g := 0, a := s.cfg.fallbackPower, deferred := false, mismatch := none, overdue := false }
          else { x with deferred := false, mismatch := none, overdue := false } }
        so := { bset := ⟨500, none⟩, clim := ⟨1000, none⟩ }
        rq := { s.rq with tillReleased := false }
        sp := StationPorts.released 2 s.tb.monoMin })

/-! ### The allocation round -/

/-- What a round tick does before its round: a waiting Pending Set is taken into the EM Set, an absent one filled from the Safe
Set, with LIMITS_TAKEN (R10); the Safe Set is rebuilt (R7) and the Active Set chosen by port E's presence (R11); a window
whose D differs from the Active demand limit takes it and its limit energy (R36); bays without reports are marked stale
(R57). Nothing else changes. -/
def Obligations.TickPreparesRound : Prop :=
  ∀ s : State,
    let t := s.tickLimits.tickGuard.markStale
    let base := s.ls.em.getD s.ls.safe
    let taken : LimitSet := {
      importCap := s.ls.pend.importCap.getD base.importCap
      exportCap := s.ls.pend.exportCap.getD base.exportCap
      demandLimit := s.ls.pend.demandLimit.getD base.demandLimit
      storeMargin := s.ls.pend.storeMargin.getD base.storeMargin
      socFloor := s.ls.pend.socFloor.getD base.socFloor
      socCeil := s.ls.pend.socCeil.getD base.socCeil
      socTarget := s.ls.pend.socTarget.getD base.socTarget
      tariff := s.ls.pend.tariff.getD base.tariff }
    let limits := s.ls.pend.importCap.isSome || s.ls.pend.exportCap.isSome || s.ls.pend.demandLimit.isSome ||
      s.ls.pend.storeMargin.isSome || s.ls.pend.socFloor.isSome || s.ls.pend.socCeil.isSome ||
      s.ls.pend.socTarget.isSome
    let floor := min s.cfg.safeFloor s.cfg.batteryCapacity
    let ceil := min (max s.cfg.safeCeil floor) s.cfg.batteryCapacity
    (∃ ls dg bt sp, t = { s with ls := ls, dg := dg, bt := bt, sp := sp }) ∧
    (s.ls.pend.waiting = false → t.ls.em = s.ls.em ∧ t.ls.pend = s.ls.pend ∧ t.sp = s.sp) ∧
    (s.ls.pend.waiting = true → t.ls.em = some taken ∧
      t.ls.pend = ⟨none, none, none, none, none, none, none, none, false⟩ ∧
      t.sp = (s.raise .energy .limitsTaken (.parts limits s.ls.pend.tariff.isSome) (.num 0)).sp) ∧
    t.ls.safe = {
      importCap := s.cfg.safeImportCap
      exportCap := 0
      demandLimit := s.cfg.safeDemand
      storeMargin := s.cfg.safeMargin
      socFloor := floor
      socCeil := ceil
      socTarget := min (max s.cfg.safeTarget floor) ceil
      tariff := (t.ls.em.map (·.tariff)).getD [⟨0, 0, false, false⟩] } ∧
    (∀ x, t.ls.em = some x → (s.port .energy).presence = .present → t.ls.active = x ∧ t.ls.source = .em) ∧
    ((t.ls.em = none ∨ (s.port .energy).presence = .lapsed) → t.ls.active = t.ls.safe ∧ t.ls.source = .safe) ∧
    t.dg = { s.dg with window := s.dg.window.map fun w => if t.ls.active.demandLimit = w.d then w else
      { w with d := t.ls.active.demandLimit, elim := t.ls.active.demandLimit * w.length / 36 } } ∧
    t.bt = { s.bt with bays := s.bt.bays.map fun b =>
      if 1 ≤ b.number ∧ b.number ≤ s.cfg.bayCount ∧ b.state = .active ∧
          s.cfg.reportLimit * 1000 < (s.tb.ms - b.lastReport).toNat then { b with stale := true } else b }

/-- A round tick that is due, or comes with the end of this period and makes its advance (log 2), takes a round and schedules
the next tick one round period later (R4). The round records its results with the round number one higher (R89), with BFULL and
BEMPTY as accepted, unknown included, which is the model's choice (log 24); it ages its
candidates (R84, R85), issues its targets with port N PRESENT and none with it LAPSED (R74, R86), and writes both duties
(R108, R110); the canopy limit is formed after the issue (R87), and a shortfall raises STORE_OVERLOAD (R78, log 11). Nothing
else changes, but that the limits of expiries written before an advance made here count from it. With no tick due the event
changes nothing (log 4). -/
def Obligations.RoundTickTakesRound : Prop :=
  ∀ (tick : Word) (s : State), s.held = none → s.tb.nextTick = some tick →
    let period := BitVec.ofNat 32 (s.cfg.roundPeriod * 1000)
    let reached (now : Word) : Prop := s.cfg.roundPeriod * 1000 ≤ (now - (tick - period)).toNat
    let due := s.site = .run ∧ reached s.tb.ms
    let coming := s.site = .run ∧ s.tb.advanceMade = false ∧ ¬ reached s.tb.ms ∧ reached (s.tb.ms + 1)
    (¬ due → ¬ coming → exec .roundTick s = .next s) ∧
    (due ∨ coming →
      ∃ (tb : TimeBase) (jl : JudgedLimits) (t : State) (r : RoundResults), exec .roundTick s = .next t ∧
        (due → tb = s.tb ∧ jl = s.jl) ∧
        (¬ due → tb = { s.tb with ms := s.tb.ms + 1, monoPhase := s.tb.monoPhase + 1,
                                  clockPhase := s.tb.clockPhase + 1, advanceMade := true } ∧
          jl = { s.jl with silence := s.cfg.silenceLimit, presenceN := s.cfg.presenceN, presenceT := s.cfg.presenceT,
                           presenceE := s.cfg.presenceE }) ∧
        let q := ({ s with tb := tb, jl := jl } : State).tickLimits.tickGuard.markStale
        let f := q.figures
        let aged (b : BayRec) : BayRec :=
          match targetOf f.shared.targets b.number with
          | none => b
          | some v =>
            let hold := if v = 0 then min 255 (b.hold + 1) else 0
            if v = 0 ∧ hold = s.cfg.agingLimit then { b with hold := 0, promo := s.cfg.promotionLength }
            else { b with hold := hold, promo := b.promo - 1 }
        let charging (b : BayRec) (stale : Bool) : Bool := decide (b.state = .active ∧ b.stale = stale)
        r = {
          roundNumber := s.al.roundNumber + 1
          network := (s.port .network).presence
          gin := q.estimate .gridIn
          gout := q.estimate .gridOut
          canopy := q.estimate .canopy
          bin := q.estimate .battIn
          bout := q.estimate .battOut
          csum := total (q.inServiceBays.map fun b =>
            if charging b false then b.measured
            else if charging b true ∨ b.state = .fallback then max (q.grant b.number).g (q.grant b.number).a
            else 0)
          load := f.load
          history := f.history
          loadUsed := f.loadUsed
          allowance := f.allowance
          margin := q.ls.active.storeMargin
          headroom := f.headroom
          band := if s.mi.soc < q.ls.active.socCeil ∧ s.mi.bfull.accepted ≠ some true
            then some (q.lookup.1, q.lookup.2.gridCharge) else none
          soc := s.mi.soc
          bfull := s.mi.bfull.accepted
          bempty := s.mi.bempty.accepted
          shoppers := (f.candidates.filter fun y => y.shopper).length
          standards := (f.candidates.filter fun y => !y.shopper).length
          rfix := f.rfix
          rstale := total (q.inServiceBays.map fun b => if charging b true then (q.grant b.number).g else 0)
          dc := f.dc
          charge := f.charge
          discharge := f.discharge
          cb := f.cb
          cfree := f.cfree
          shortfall := f.shortfall
          canopyLimit := min (f.load + t.committedSum + f.charge + q.ls.active.exportCap) 65535
          sumC := t.committedSum
          rotation := f.shared.pointer
          targets := f.targets } ∧
        (∃ bt gt sp, t = { q with
          tb := { tb with nextTick := some (tick + period) }
          bt := bt
          al := { loadHistory := r.history, rotation := r.rotation, roundNumber := r.roundNumber, results := some r }
          gt := gt
          so := {
            bset := ⟨s.so.bset.current, some (
              if 0 < r.charge then 500 + 500 * r.charge / s.cfg.bchgMax
              else if 0 < r.discharge then 500 - 500 * r.discharge / s.cfg.bdisMax
              else 500)⟩
            clim := ⟨s.so.clim.current, some (
              if q.ls.active.exportCap = 65535 ∨ s.cfg.canopyRated = 0 then 1000
              else min 1000 (1000 * r.canopyLimit / s.cfg.canopyRated))⟩ }
          sp := sp }) ∧
        t.bt = { q.bt with bays := q.bt.bays.map aged } ∧
        (s.isPresent .network = true → t.gt = (q.issueTargets r.targets r.cb).gt ∧
          t.sp.network = (q.issueTargets r.targets r.cb).sp.network) ∧
        (s.isPresent .network = false → t.gt = s.gt ∧ t.bt = q.bt ∧ r.targets = [] ∧ t.sp.network = q.sp.network) ∧
        t.sp.till = s.sp.till ∧
        t.sp.energy = (if r.headroom + r.discharge < 0
          then (q.raise .energy .storeOverload (.num r.shortfall) (.num r.roundNumber.toNat)).sp.energy
          else q.sp.energy))

/-- The figures of a round, from the state as the tick has left the blocks: the store load and its history (R69, R70), the
current window's allowance and the headroom (R71), the charger demand and the reservations (R72 to R74), the battery plan, of which at most one side is positive
(R75, R76), the budget and the shortfall (R77, R78). Under the laws of the tables the candidates are the ACTIVE bays with a
report in time and a demand of at least the bay min, in the admission order of their OPEN sessions (R72). Each target is the
sharing's for a candidate, the issued grant for a stale bay that stays frozen, and 0 for any other bay in service; the frozen
bays are as many of the earliest admitted stale bays as have grants that the budget holds (R79, R83). -/
def Obligations.RoundFiguresFollowRules : Prop :=
  ∀ q : State,
    let f := q.figures
    let present := (q.port .network).presence = .present
    let plant : Int := (q.estimate .gridIn : Int) - q.estimate .gridOut + q.estimate .canopy + q.estimate .battOut -
      q.estimate .battIn
    let csum := total (q.inServiceBays.map fun b =>
      if b.state = .active ∧ b.stale = false then b.measured
      else if b.state = .active ∨ b.state = .fallback then max (q.grant b.number).g (q.grant b.number).a
      else 0)
    let h : Int := (f.allowance : Int) + q.estimate .canopy - f.loadUsed - q.ls.active.storeMargin
    let x : Int := if q.lookup.2.gridCharge = true ∧ q.mi.soc < q.ls.active.socTarget then h - f.dc
      else min (h - f.dc) ((q.estimate .canopy : Int) - f.loadUsed - f.dc)
    f.load = (min (max (plant - csum) 0) 65535).toNat ∧
    f.history = (if q.al.loadHistory.length < 4 then q.al.loadHistory else q.al.loadHistory.drop 1) ++ [f.load] ∧
    f.loadUsed ∈ f.history ∧ (∀ l ∈ f.history, l ≤ f.loadUsed) ∧
    f.allowance = q.allowance ∧ (∀ w, q.dg.window = some w → f.allowance = q.windowAllowance w) ∧ f.headroom = h ∧
    (present → f.rfix = total (q.inServiceBays.map fun b =>
        if b.state = .active ∧ b.stale = true then (q.grant b.number).g
        else if b.state = .fallback then max (q.grant b.number).g (q.grant b.number).a
        else 0) ∧
      f.dc = total (f.candidates.map (·.d)) + f.rfix ∧
      f.shared = shareBudget q.cfg.bayMin q.cfg.bayCount f.cfree q.al.rotation f.candidates ∧
      (∀ y ∈ f.candidates, ∃ b ∈ q.inServiceBays, ∃ z ∈ q.st.sessions, b.number = y.bay ∧ b.state = .active ∧
        b.stale = false ∧ b.session = some z.number ∧ z.state = .opened ∧ z.bay = b.number ∧
        y.d = min b.request (min b.connectorMax q.cfg.perBayCap) ∧ q.cfg.bayMin ≤ y.d ∧
        (y.shopper = true ↔ 0 < z.creditLeft ∨ 0 < b.promo))) ∧
    (present → q.TablesOk → q.SessionsOk → q.BindingsOk →
      let opened := q.st.sessions.filter fun z => decide (z.state = .opened)
      let charging (z : Session) (stale : Bool) : Option BayRec := (q.bay z.bay).filter fun b =>
        decide (1 ≤ b.number ∧ b.number ≤ q.cfg.bayCount ∧ b.state = .active ∧ b.stale = stale)
      let demand (b : BayRec) : Nat := min b.request (min b.connectorMax q.cfg.perBayCap)
      let stale := opened.filterMap fun z => (charging z true).map (·.number)
      let granted (n : Nat) : Nat := total ((stale.take n).map fun k => (q.grant k).g)
      f.candidates = opened.filterMap (fun z =>
        ((charging z false).filter fun b => decide (q.cfg.bayMin ≤ demand b)).map fun b =>
          ⟨b.number, demand b, decide (0 < z.creditLeft ∨ 0 < b.promo)⟩) ∧
      ∃ n, n ≤ stale.length ∧ granted n ≤ f.cb ∧ (∀ m, n < m → m ≤ stale.length → f.cb < granted m) ∧
        f.targets = q.inServiceBays.map fun b => (b.number,
          (targetOf f.shared.targets b.number).getD (if b.number ∈ stale.take n then (q.grant b.number).g else 0))) ∧
    (¬ present → f.rfix = q.committedSum ∧ f.dc = q.committedSum ∧ f.candidates = [] ∧ f.targets = [] ∧
      f.shared.pointer = q.al.rotation) ∧
    f.charge = (if q.ls.active.socCeil ≤ q.mi.soc ∨ q.mi.bfull.accepted = some true then 0
      else min q.cfg.bchgMax (max x 0).toNat) ∧
    f.discharge = (if q.mi.soc ≤ q.ls.active.socFloor ∨ q.mi.bempty.accepted = some true ∨ (f.dc : Int) ≤ h then 0
      else min q.cfg.bdisMax (f.dc - h).toNat) ∧
    (f.charge = 0 ∨ f.discharge = 0) ∧ f.charge ≤ q.cfg.bchgMax ∧ f.discharge ≤ q.cfg.bdisMax ∧
    f.cb = (min (max (h + f.discharge - f.charge) 0) 65535).toNat ∧ f.cfree = f.cb - f.rfix ∧
    f.shortfall = (min (max (-(h + f.discharge)) 0) 65535).toNat ∧ (0 < f.shortfall → f.cb = 0)

/-- The sharing of a free budget (R80 to R82): every candidate gets one target, which is 0 or lies from the bay min to its
demand; the targets and what is left make up the budget; the pointer stays at a bay in use. A STANDARD candidate gets power
only when every SHOPPER candidate has its whole demand. The targets a round hands over, with the frozen grants of its stale
bays, sum to no more than its budget (R79, R83), under the laws of the tables. The SHOPPER class shares first and the STANDARD
class what it leaves (R80). In a class, the candidates whose demand the equal share covers get it and the others share the
rest; else, with a share below the bay min, the latest admitted gets 0 and the others share all; else each gets the share,
and in turn from the pointer one more until the remainder is gone (R81, R82). -/
def Obligations.TargetsFitBudget : Prop :=
  (∀ (bayMin bayCount cfree pointer : Nat) (l : List Candidate), 1 ≤ bayMin → (l.map (·.bay)).Nodup →
    (∀ y ∈ l, 1 ≤ y.bay ∧ y.bay ≤ bayCount ∧ bayMin ≤ y.d) → 1 ≤ pointer → pointer ≤ bayCount →
    let z := shareBudget bayMin bayCount cfree pointer l
    (z.targets.map (·.1)).Perm (l.map (·.bay)) ∧
    (∀ y ∈ l, ∀ v, targetOf z.targets y.bay = some v → v = 0 ∨ (bayMin ≤ v ∧ v ≤ y.d)) ∧
    total (z.targets.map (·.2)) + z.left = cfree ∧ 1 ≤ z.pointer ∧ z.pointer ≤ bayCount ∧
    (∀ y ∈ l, ∀ w ∈ l, ∀ v, y.shopper = false → targetOf z.targets y.bay = some v → 0 < v → w.shopper = true →
      targetOf z.targets w.bay = some w.d) ∧
    (let first := shareBudget bayMin bayCount cfree pointer (l.filter fun y => y.shopper)
     let second := shareBudget bayMin bayCount first.left first.pointer (l.filter fun y => !y.shopper)
     z = ⟨first.targets ++ second.targets, second.left, second.pointer⟩) ∧
    ((∀ y ∈ l, ∀ w ∈ l, y.shopper = w.shopper) → l ≠ [] →
      let share := cfree / l.length
      let covered := l.filter fun y => decide (y.d ≤ share)
      let rest := l.filter fun y => decide (share < y.d)
      (covered ≠ [] →
        let u := shareBudget bayMin bayCount (cfree - total (covered.map (·.d))) pointer rest
        z.left = u.left ∧ z.pointer = u.pointer ∧ (∀ y ∈ covered, targetOf z.targets y.bay = some y.d) ∧
        ∀ y ∈ rest, targetOf z.targets y.bay = targetOf u.targets y.bay) ∧
      (covered = [] → share < bayMin → ∀ m y, l = m ++ [y] →
        let u := shareBudget bayMin bayCount cfree pointer m
        z.left = u.left ∧ z.pointer = u.pointer ∧ targetOf z.targets y.bay = some 0 ∧
        ∀ x ∈ m, targetOf z.targets x.bay = targetOf u.targets x.bay) ∧
      (covered = [] → bayMin ≤ share →
        let turn := ((List.range' pointer (bayCount + 1 - pointer) ++ List.range' 1 (pointer - 1)).filter
          fun k => decide (k ∈ l.map (·.bay))).take (cfree % l.length)
        z.left = 0 ∧
        z.pointer = (match turn.getLast? with
          | none => pointer
          | some k => if k = bayCount then 1 else k + 1) ∧
        ∀ y ∈ l, targetOf z.targets y.bay = some (if y.bay ∈ turn then share + 1 else share)))) ∧
  ∀ s : State, s.TablesOk → s.SessionsOk → s.BindingsOk →
    total (s.figures.targets.map (·.2)) ≤ s.figures.cb

/-! ### Frames -/

/-- The frame of a request (R154, R167) is the command that its tag, code and payload spell, for every payload a length byte
admits: a request of the catalogue with that tag and code, or an unknown command (R156). Every frame of either direction
sums to 0 with its check byte; one bad stop bit makes it a discard. A response frame has its tag, code, status, length, payload
and check in that order, a payload length of at most 240, and the payloads and records that R167 gives have their fields at the
places it gives, most significant byte first. The reading and the spelling of the layouts the spec does not give are free
(log 6), and so are the bits to which R167 gives no meaning (log 27). -/
def Obligations.RequestFramesRoundTrip : Prop :=
  (∀ (p : Port) (tag code : Byte) (payload : List Byte), payload.length ≤ 240 →
    let frame := requestFrame tag code payload
    frame.length = 4 + payload.length ∧ (frame.map (·.toNat)).sum % 256 = 0 ∧
    frameCommand p false frame = requestOf p tag code payload ∧ frameCommand p true frame = .frameDiscard p ∧
    (code ∈ catalogueCodes → requestHead (requestOf p tag code payload) = some (p, tag) ∧
      catalogueCode (requestOf p tag code payload) = some code) ∧
    (code ∉ catalogueCodes → requestOf p tag code payload = .unknownCommand p tag code) ∧
    ∀ r : Response, (r.frame.map (·.toNat)).sum % 256 = 0) ∧
  let field (l : List Byte) (place size : Nat) : Nat := ((l.drop place).take size).foldl (fun v b => v * 256 + b.toNat) 0
  let bit (l : List Byte) (place i : Nat) : Bool := ((l[place]?).getD 0).getLsbD i
  (∀ r : Response,
    r.frame.length = 5 + r.payload.bytes.length ∧ r.frame[0]? = some r.tag ∧ r.frame[1]? = some (r.code ||| 0x80) ∧
    field r.frame 2 1 = ([.ok, .adjusted, .badRequest, .notPermitted, .badState, .unknownBay, .unknownVoucher, .duplicate,
      .listFull, .belowMinimum, .notClaimable, .outOfOrder, .outOfRange, .empty] : List Status).idxOf r.status ∧
    field r.frame 3 1 = r.payload.bytes.length % 256 ∧
    (r.frame.drop 4).take r.payload.bytes.length = r.payload.bytes) ∧
  (∀ x : Reply, (∀ l, x = .reports l → l.length ≤ 8) → (∀ eg ea l, x = .grants eg ea l → l.length ≤ 32) →
    (∀ n r, x = .receipt n r → r.entries.length ≤ 8) → x.bytes.length ≤ 240) ∧
  (∀ m : Half, (Reply.mask m).bytes.length = 2 ∧ field (Reply.mask m).bytes 0 2 = m.toNat) ∧
  (∀ r : PingReply, let l := (Reply.ping r).bytes
    l.length = 15 ∧ field l 0 2 = 0x0C32 ∧ field l 2 1 = 1 ∧ field l 3 1 = r.bayCount % 256 ∧
    field l 4 1 = (if r.speed then 1 else 0) ∧ field l 5 1 = (if r.site = .run then 1 else 0) ∧
    bit l 6 0 = r.presentN ∧ bit l 6 1 = r.presentT ∧ bit l 6 2 = r.presentE ∧
    bit l 6 4 = r.lapsedN ∧ bit l 6 5 = r.lapsedT ∧ bit l 6 6 = r.lapsedE ∧ field l 7 2 = r.framing % 65536 ∧
    field l 9 2 = r.oversize % 65536 ∧ field l 11 2 = r.badFrame % 65536 ∧ field l 13 2 = r.overrun % 65536) ∧
  (∀ r : NoticeReply, let l := (Reply.notice r).bytes
    l.length = 14 ∧ field l 0 1 = r.code % 256 ∧ field l 1 1 = r.count % 256 ∧
    (∀ n, r.a = .num n → field l 2 4 = n % 4294967296) ∧ (∀ n, r.b = .num n → field l 6 4 = n % 4294967296) ∧
    field l 10 2 = r.pendingSet.toNat ∧ field l 12 2 = r.mask.toNat) ∧
  (∀ entries : List ReportReply, let l := (Reply.reports entries).bytes
    l.length = 1 + 4 * entries.length ∧ field l 0 1 = entries.length % 256 ∧
    ∀ i x, entries[i]? = some x → field l (1 + 4 * i) 1 = x.bay % 256 ∧
      field l (2 + 4 * i) 1 =
        ([.vacant, .waiting, .active, .done, .fallback, .outOfService] : List BayState).idxOf x.state ∧
      field l (3 + 4 * i) 2 = x.session.getD 0 % 65536) ∧
  (∀ (eg ea : Nat) (entries : List GrantReply), let l := (Reply.grants eg ea entries).bytes
    l.length = 9 + 7 * entries.length ∧ field l 0 4 = eg % 4294967296 ∧ field l 4 4 = ea % 4294967296 ∧
    field l 8 1 = entries.length % 256 ∧
    ∀ i x, entries[i]? = some x → x.bay < 64 → field l (9 + 7 * i) 1 % 64 = x.bay ∧ bit l (9 + 7 * i) 6 = x.deferred ∧
      bit l (9 + 7 * i) 7 = x.overdue ∧ field l (10 + 7 * i) 2 = x.g % 65536 ∧
      field l (12 + 7 * i) 2 = x.a % 65536 ∧ field l (14 + 7 * i) 2 = x.lag % 65536) ∧
  (∀ (owed : Nat) (r : Receipt),
    field (Reply.receipt owed r).bytes 0 1 = owed % 256 ∧ (Reply.receipt owed r).bytes.drop 1 = r.bytes) ∧
  ∀ r : Receipt, let l := r.bytes
    l.length = 44 + 12 * r.entries.length ∧ field l 0 4 = r.number % 4294967296 ∧ field l 4 2 = r.session % 65536 ∧
    field l 6 1 = r.bay % 256 ∧
    (∀ c, r.cause = some c →
      field l 7 1 = 1 + ([.unplugged, .endSession, .outOfService, .abandoned] : List CloseCause).idxOf c) ∧
    field l 8 4 = r.start.mono % 4294967296 ∧ field l 12 2 = r.start.dayMinute % 65536 ∧
    (∀ x, r.stop = some x → field l 14 4 = x.mono % 4294967296 ∧ field l 18 2 = x.dayMinute % 65536) ∧
    field l 20 4 = r.total % 4294967296 ∧ field l 24 4 = r.free % 4294967296 ∧
    field l 28 4 = r.voucher.getD 0 % 4294967296 ∧
    field l 32 4 = (if r.voucher = none then 0 else r.creditGranted % 4294967296) ∧
    bit l 36 0 = r.flags.meterBack ∧ bit l 36 1 = r.flags.clamped ∧ bit l 36 2 = r.flags.incomplete ∧
    bit l 36 3 = r.flags.tariffMerged ∧ bit l 36 4 = r.flags.clockUnset ∧ bit l 36 5 = r.flags.withdrawn ∧
    bit l 36 6 = r.tillReleased ∧ bit l 36 7 = r.voucher.isSome ∧
    bit l 37 0 = r.owedNetwork ∧ bit l 37 1 = r.owedTill ∧ field l 38 5 = r.charge % 1099511627776 ∧
    field l 43 1 = r.entries.length % 256 ∧
    ∀ i e, r.entries[i]? = some e → e.index < 16 → field l (44 + 12 * i) 1 % 16 = e.index ∧
      bit l (44 + 12 * i) 7 = e.peak ∧ field l (45 + 12 * i) 2 = e.price % 65536 ∧
      field l (47 + 12 * i) 4 = e.wh % 4294967296 ∧ field l (51 + 12 * i) 5 = e.cents % 1099511627776

/-! ### Laws that every step keeps -/

/-- Every step keeps the shape of the tables, the window and schedule of the site state, and the ranges of the SoC, the duties
and the histories (R4, R24, R32, R40, R45, R70, R89, R106, R168). It also keeps the laws of the limit sets and the ranges of the
configuration items (R5, R8 to R12, R169). -/
def Obligations.StepKeepsPlantLaws : Prop :=
  (∀ s t : State, s.TablesOk → s.SiteOk → s.PlantOk → step s = .next t → t.TablesOk ∧ t.SiteOk ∧ t.PlantOk) ∧
  ∀ s t : State, s.LimitsOk → step s = .next t → t.LimitsOk

/-- Every step keeps the order of the epochs: the acknowledged epoch and every issue epoch never exceed the grant epoch
(R94). -/
def Obligations.StepKeepsEpochOrder : Prop :=
  ∀ s t : State, s.EpochsOk → step s = .next t → t.EpochsOk

/-- Every step keeps the laws of the Receipt Queue: at most 64 receipts, each owed to a port, with strictly rising numbers
below the next (R145, R146). -/
def Obligations.StepKeepsReceiptLaws : Prop :=
  ∀ s t : State, s.ReceiptsOk → step s = .next t → t.ReceiptsOk

/-- Every step keeps the laws of the sessions and the vouchers: their number, their distinct names, the energy of each session
adding up and the credit it has spent (R114, R116, R119, R120, R132), with the tables in shape. -/
def Obligations.StepKeepsSessionLaws : Prop :=
  ∀ s t : State, s.TablesOk → s.SessionsOk → s.VouchersOk → step s = .next t → t.SessionsOk ∧ t.VouchersOk

/-- Every step keeps the bindings: bays and OPEN sessions name each other, the pending order holds the closed sessions and only
while the queue answers full, and the Slot Wait List holds the WAITING bays and only while the table is full (R47, R55,
R114, R125, R130). Bound vouchers and OPEN sessions name each other, with the credit and the withdrawal they share (R136, R138,
R139). -/
def Obligations.StepKeepsBindings : Prop :=
  ∀ s t : State, s.TablesOk → s.SessionsOk → s.ReceiptsOk → s.BindingsOk → step s = .next t →
    t.BindingsOk ∧ (s.VouchersOk → s.ClaimsOk → t.ClaimsOk)

/-- Every step keeps the laws of the grants: an issued grant is 0 or lies from the bay min to the bay max, the issued grants
sum to no more than the budget of the latest round, and without a round, in CONFIGURE and during a network lapse they are
0 (R95, R93, R104). -/
def Obligations.StepKeepsGrantLaws : Prop :=
  ∀ s t : State, s.TablesOk → s.SessionsOk → s.BindingsOk → s.GrantsOk → step s = .next t → t.GrantsOk

end Statements
end

