-- ==== Sys2Proof/Laws/State.lean ====
section
/-! SUPPORT. What each basic update of State leaves in each block: true by unfolding, for simp. -/

namespace Sys2Proof.Machine

variable (s : State)

/-! updPort -/

@[simp] theorem State.updPort_site (p : Port) (f : PortState → PortState) : (s.updPort p f).site = s.site := rfl
@[simp] theorem State.updPort_cfg (p : Port) (f : PortState → PortState) : (s.updPort p f).cfg = s.cfg := rfl
@[simp] theorem State.updPort_jl (p : Port) (f : PortState → PortState) : (s.updPort p f).jl = s.jl := rfl
@[simp] theorem State.updPort_straps (p : Port) (f : PortState → PortState) : (s.updPort p f).straps = s.straps := rfl
@[simp] theorem State.updPort_rd (p : Port) (f : PortState → PortState) : (s.updPort p f).rd = s.rd := rfl
@[simp] theorem State.updPort_held (p : Port) (f : PortState → PortState) : (s.updPort p f).held = s.held := rfl
@[simp] theorem State.updPort_tb (p : Port) (f : PortState → PortState) : (s.updPort p f).tb = s.tb := rfl
@[simp] theorem State.updPort_ls (p : Port) (f : PortState → PortState) : (s.updPort p f).ls = s.ls := rfl
@[simp] theorem State.updPort_mi (p : Port) (f : PortState → PortState) : (s.updPort p f).mi = s.mi := rfl
@[simp] theorem State.updPort_dg (p : Port) (f : PortState → PortState) : (s.updPort p f).dg = s.dg := rfl
@[simp] theorem State.updPort_bt (p : Port) (f : PortState → PortState) : (s.updPort p f).bt = s.bt := rfl
@[simp] theorem State.updPort_al (p : Port) (f : PortState → PortState) : (s.updPort p f).al = s.al := rfl
@[simp] theorem State.updPort_gt (p : Port) (f : PortState → PortState) : (s.updPort p f).gt = s.gt := rfl
@[simp] theorem State.updPort_so (p : Port) (f : PortState → PortState) : (s.updPort p f).so = s.so := rfl
@[simp] theorem State.updPort_st (p : Port) (f : PortState → PortState) : (s.updPort p f).st = s.st := rfl
@[simp] theorem State.updPort_vl (p : Port) (f : PortState → PortState) : (s.updPort p f).vl = s.vl := rfl
@[simp] theorem State.updPort_rq (p : Port) (f : PortState → PortState) : (s.updPort p f).rq = s.rq := rfl
@[simp] theorem State.updPort_sp (p : Port) (f : PortState → PortState) : (s.updPort p f).sp = s.sp.set p (f (s.sp.get p)) := rfl
@[simp] theorem State.updPort_pending (p : Port) (f : PortState → PortState) : (s.updPort p f).pending = s.pending := rfl

/-! raise -/

@[simp] theorem State.raise_site (p : Port) (n : Notice) (a b : Detail) : (s.raise p n a b).site = s.site := rfl
@[simp] theorem State.raise_cfg (p : Port) (n : Notice) (a b : Detail) : (s.raise p n a b).cfg = s.cfg := rfl
@[simp] theorem State.raise_jl (p : Port) (n : Notice) (a b : Detail) : (s.raise p n a b).jl = s.jl := rfl
@[simp] theorem State.raise_straps (p : Port) (n : Notice) (a b : Detail) : (s.raise p n a b).straps = s.straps := rfl
@[simp] theorem State.raise_rd (p : Port) (n : Notice) (a b : Detail) : (s.raise p n a b).rd = s.rd := rfl
@[simp] theorem State.raise_held (p : Port) (n : Notice) (a b : Detail) : (s.raise p n a b).held = s.held := rfl
@[simp] theorem State.raise_tb (p : Port) (n : Notice) (a b : Detail) : (s.raise p n a b).tb = s.tb := rfl
@[simp] theorem State.raise_ls (p : Port) (n : Notice) (a b : Detail) : (s.raise p n a b).ls = s.ls := rfl
@[simp] theorem State.raise_mi (p : Port) (n : Notice) (a b : Detail) : (s.raise p n a b).mi = s.mi := rfl
@[simp] theorem State.raise_dg (p : Port) (n : Notice) (a b : Detail) : (s.raise p n a b).dg = s.dg := rfl
@[simp] theorem State.raise_bt (p : Port) (n : Notice) (a b : Detail) : (s.raise p n a b).bt = s.bt := rfl
@[simp] theorem State.raise_al (p : Port) (n : Notice) (a b : Detail) : (s.raise p n a b).al = s.al := rfl
@[simp] theorem State.raise_gt (p : Port) (n : Notice) (a b : Detail) : (s.raise p n a b).gt = s.gt := rfl
@[simp] theorem State.raise_so (p : Port) (n : Notice) (a b : Detail) : (s.raise p n a b).so = s.so := rfl
@[simp] theorem State.raise_st (p : Port) (n : Notice) (a b : Detail) : (s.raise p n a b).st = s.st := rfl
@[simp] theorem State.raise_vl (p : Port) (n : Notice) (a b : Detail) : (s.raise p n a b).vl = s.vl := rfl
@[simp] theorem State.raise_rq (p : Port) (n : Notice) (a b : Detail) : (s.raise p n a b).rq = s.rq := rfl
@[simp] theorem State.raise_pending (p : Port) (n : Notice) (a b : Detail) : (s.raise p n a b).pending = s.pending := rfl

/-! respond -/

@[simp] theorem State.respond_site (p : Port) (tag code : Byte) (x : Status) (r : Reply) : (s.respond p tag code x r).site = s.site := rfl
@[simp] theorem State.respond_cfg (p : Port) (tag code : Byte) (x : Status) (r : Reply) : (s.respond p tag code x r).cfg = s.cfg := rfl
@[simp] theorem State.respond_jl (p : Port) (tag code : Byte) (x : Status) (r : Reply) : (s.respond p tag code x r).jl = s.jl := rfl
@[simp] theorem State.respond_straps (p : Port) (tag code : Byte) (x : Status) (r : Reply) : (s.respond p tag code x r).straps = s.straps := rfl
@[simp] theorem State.respond_rd (p : Port) (tag code : Byte) (x : Status) (r : Reply) : (s.respond p tag code x r).rd = s.rd := rfl
@[simp] theorem State.respond_held (p : Port) (tag code : Byte) (x : Status) (r : Reply) : (s.respond p tag code x r).held = s.held := rfl
@[simp] theorem State.respond_tb (p : Port) (tag code : Byte) (x : Status) (r : Reply) : (s.respond p tag code x r).tb = s.tb := rfl
@[simp] theorem State.respond_ls (p : Port) (tag code : Byte) (x : Status) (r : Reply) : (s.respond p tag code x r).ls = s.ls := rfl
@[simp] theorem State.respond_mi (p : Port) (tag code : Byte) (x : Status) (r : Reply) : (s.respond p tag code x r).mi = s.mi := rfl
@[simp] theorem State.respond_dg (p : Port) (tag code : Byte) (x : Status) (r : Reply) : (s.respond p tag code x r).dg = s.dg := rfl
@[simp] theorem State.respond_bt (p : Port) (tag code : Byte) (x : Status) (r : Reply) : (s.respond p tag code x r).bt = s.bt := rfl
@[simp] theorem State.respond_al (p : Port) (tag code : Byte) (x : Status) (r : Reply) : (s.respond p tag code x r).al = s.al := rfl
@[simp] theorem State.respond_gt (p : Port) (tag code : Byte) (x : Status) (r : Reply) : (s.respond p tag code x r).gt = s.gt := rfl
@[simp] theorem State.respond_so (p : Port) (tag code : Byte) (x : Status) (r : Reply) : (s.respond p tag code x r).so = s.so := rfl
@[simp] theorem State.respond_st (p : Port) (tag code : Byte) (x : Status) (r : Reply) : (s.respond p tag code x r).st = s.st := rfl
@[simp] theorem State.respond_vl (p : Port) (tag code : Byte) (x : Status) (r : Reply) : (s.respond p tag code x r).vl = s.vl := rfl
@[simp] theorem State.respond_rq (p : Port) (tag code : Byte) (x : Status) (r : Reply) : (s.respond p tag code x r).rq = s.rq := rfl
@[simp] theorem State.respond_pending (p : Port) (tag code : Byte) (x : Status) (r : Reply) : (s.respond p tag code x r).pending = s.pending := rfl

/-! emptyReceiver -/

@[simp] theorem State.emptyReceiver_site (p : Port) : (s.emptyReceiver p).site = s.site := rfl
@[simp] theorem State.emptyReceiver_cfg (p : Port) : (s.emptyReceiver p).cfg = s.cfg := rfl
@[simp] theorem State.emptyReceiver_jl (p : Port) : (s.emptyReceiver p).jl = s.jl := rfl
@[simp] theorem State.emptyReceiver_straps (p : Port) : (s.emptyReceiver p).straps = s.straps := rfl
@[simp] theorem State.emptyReceiver_rd (p : Port) : (s.emptyReceiver p).rd = s.rd := rfl
@[simp] theorem State.emptyReceiver_held (p : Port) : (s.emptyReceiver p).held = s.held := rfl
@[simp] theorem State.emptyReceiver_tb (p : Port) : (s.emptyReceiver p).tb = s.tb := rfl
@[simp] theorem State.emptyReceiver_ls (p : Port) : (s.emptyReceiver p).ls = s.ls := rfl
@[simp] theorem State.emptyReceiver_mi (p : Port) : (s.emptyReceiver p).mi = s.mi := rfl
@[simp] theorem State.emptyReceiver_dg (p : Port) : (s.emptyReceiver p).dg = s.dg := rfl
@[simp] theorem State.emptyReceiver_bt (p : Port) : (s.emptyReceiver p).bt = s.bt := rfl
@[simp] theorem State.emptyReceiver_al (p : Port) : (s.emptyReceiver p).al = s.al := rfl
@[simp] theorem State.emptyReceiver_gt (p : Port) : (s.emptyReceiver p).gt = s.gt := rfl
@[simp] theorem State.emptyReceiver_so (p : Port) : (s.emptyReceiver p).so = s.so := rfl
@[simp] theorem State.emptyReceiver_st (p : Port) : (s.emptyReceiver p).st = s.st := rfl
@[simp] theorem State.emptyReceiver_vl (p : Port) : (s.emptyReceiver p).vl = s.vl := rfl
@[simp] theorem State.emptyReceiver_rq (p : Port) : (s.emptyReceiver p).rq = s.rq := rfl
@[simp] theorem State.emptyReceiver_pending (p : Port) : (s.emptyReceiver p).pending = s.pending := rfl

/-! updBay -/

@[simp] theorem State.updBay_site (k : Nat) (f : BayRec → BayRec) : (s.updBay k f).site = s.site := rfl
@[simp] theorem State.updBay_cfg (k : Nat) (f : BayRec → BayRec) : (s.updBay k f).cfg = s.cfg := rfl
@[simp] theorem State.updBay_jl (k : Nat) (f : BayRec → BayRec) : (s.updBay k f).jl = s.jl := rfl
@[simp] theorem State.updBay_straps (k : Nat) (f : BayRec → BayRec) : (s.updBay k f).straps = s.straps := rfl
@[simp] theorem State.updBay_rd (k : Nat) (f : BayRec → BayRec) : (s.updBay k f).rd = s.rd := rfl
@[simp] theorem State.updBay_held (k : Nat) (f : BayRec → BayRec) : (s.updBay k f).held = s.held := rfl
@[simp] theorem State.updBay_tb (k : Nat) (f : BayRec → BayRec) : (s.updBay k f).tb = s.tb := rfl
@[simp] theorem State.updBay_ls (k : Nat) (f : BayRec → BayRec) : (s.updBay k f).ls = s.ls := rfl
@[simp] theorem State.updBay_mi (k : Nat) (f : BayRec → BayRec) : (s.updBay k f).mi = s.mi := rfl
@[simp] theorem State.updBay_dg (k : Nat) (f : BayRec → BayRec) : (s.updBay k f).dg = s.dg := rfl
@[simp] theorem State.updBay_al (k : Nat) (f : BayRec → BayRec) : (s.updBay k f).al = s.al := rfl
@[simp] theorem State.updBay_gt (k : Nat) (f : BayRec → BayRec) : (s.updBay k f).gt = s.gt := rfl
@[simp] theorem State.updBay_so (k : Nat) (f : BayRec → BayRec) : (s.updBay k f).so = s.so := rfl
@[simp] theorem State.updBay_st (k : Nat) (f : BayRec → BayRec) : (s.updBay k f).st = s.st := rfl
@[simp] theorem State.updBay_vl (k : Nat) (f : BayRec → BayRec) : (s.updBay k f).vl = s.vl := rfl
@[simp] theorem State.updBay_rq (k : Nat) (f : BayRec → BayRec) : (s.updBay k f).rq = s.rq := rfl
@[simp] theorem State.updBay_sp (k : Nat) (f : BayRec → BayRec) : (s.updBay k f).sp = s.sp := rfl
@[simp] theorem State.updBay_pending (k : Nat) (f : BayRec → BayRec) : (s.updBay k f).pending = s.pending := rfl

/-! mapBays -/

@[simp] theorem State.mapBays_site (f : BayRec → BayRec) : (s.mapBays f).site = s.site := rfl
@[simp] theorem State.mapBays_cfg (f : BayRec → BayRec) : (s.mapBays f).cfg = s.cfg := rfl
@[simp] theorem State.mapBays_jl (f : BayRec → BayRec) : (s.mapBays f).jl = s.jl := rfl
@[simp] theorem State.mapBays_straps (f : BayRec → BayRec) : (s.mapBays f).straps = s.straps := rfl
@[simp] theorem State.mapBays_rd (f : BayRec → BayRec) : (s.mapBays f).rd = s.rd := rfl
@[simp] theorem State.mapBays_held (f : BayRec → BayRec) : (s.mapBays f).held = s.held := rfl
@[simp] theorem State.mapBays_tb (f : BayRec → BayRec) : (s.mapBays f).tb = s.tb := rfl
@[simp] theorem State.mapBays_ls (f : BayRec → BayRec) : (s.mapBays f).ls = s.ls := rfl
@[simp] theorem State.mapBays_mi (f : BayRec → BayRec) : (s.mapBays f).mi = s.mi := rfl
@[simp] theorem State.mapBays_dg (f : BayRec → BayRec) : (s.mapBays f).dg = s.dg := rfl
@[simp] theorem State.mapBays_al (f : BayRec → BayRec) : (s.mapBays f).al = s.al := rfl
@[simp] theorem State.mapBays_gt (f : BayRec → BayRec) : (s.mapBays f).gt = s.gt := rfl
@[simp] theorem State.mapBays_so (f : BayRec → BayRec) : (s.mapBays f).so = s.so := rfl
@[simp] theorem State.mapBays_st (f : BayRec → BayRec) : (s.mapBays f).st = s.st := rfl
@[simp] theorem State.mapBays_vl (f : BayRec → BayRec) : (s.mapBays f).vl = s.vl := rfl
@[simp] theorem State.mapBays_rq (f : BayRec → BayRec) : (s.mapBays f).rq = s.rq := rfl
@[simp] theorem State.mapBays_sp (f : BayRec → BayRec) : (s.mapBays f).sp = s.sp := rfl
@[simp] theorem State.mapBays_pending (f : BayRec → BayRec) : (s.mapBays f).pending = s.pending := rfl

/-! updGrant -/

@[simp] theorem State.updGrant_site (k : Nat) (f : GrantRec → GrantRec) : (s.updGrant k f).site = s.site := rfl
@[simp] theorem State.updGrant_cfg (k : Nat) (f : GrantRec → GrantRec) : (s.updGrant k f).cfg = s.cfg := rfl
@[simp] theorem State.updGrant_jl (k : Nat) (f : GrantRec → GrantRec) : (s.updGrant k f).jl = s.jl := rfl
@[simp] theorem State.updGrant_straps (k : Nat) (f : GrantRec → GrantRec) : (s.updGrant k f).straps = s.straps := rfl
@[simp] theorem State.updGrant_rd (k : Nat) (f : GrantRec → GrantRec) : (s.updGrant k f).rd = s.rd := rfl
@[simp] theorem State.updGrant_held (k : Nat) (f : GrantRec → GrantRec) : (s.updGrant k f).held = s.held := rfl
@[simp] theorem State.updGrant_tb (k : Nat) (f : GrantRec → GrantRec) : (s.updGrant k f).tb = s.tb := rfl
@[simp] theorem State.updGrant_ls (k : Nat) (f : GrantRec → GrantRec) : (s.updGrant k f).ls = s.ls := rfl
@[simp] theorem State.updGrant_mi (k : Nat) (f : GrantRec → GrantRec) : (s.updGrant k f).mi = s.mi := rfl
@[simp] theorem State.updGrant_dg (k : Nat) (f : GrantRec → GrantRec) : (s.updGrant k f).dg = s.dg := rfl
@[simp] theorem State.updGrant_bt (k : Nat) (f : GrantRec → GrantRec) : (s.updGrant k f).bt = s.bt := rfl
@[simp] theorem State.updGrant_al (k : Nat) (f : GrantRec → GrantRec) : (s.updGrant k f).al = s.al := rfl
@[simp] theorem State.updGrant_so (k : Nat) (f : GrantRec → GrantRec) : (s.updGrant k f).so = s.so := rfl
@[simp] theorem State.updGrant_st (k : Nat) (f : GrantRec → GrantRec) : (s.updGrant k f).st = s.st := rfl
@[simp] theorem State.updGrant_vl (k : Nat) (f : GrantRec → GrantRec) : (s.updGrant k f).vl = s.vl := rfl
@[simp] theorem State.updGrant_rq (k : Nat) (f : GrantRec → GrantRec) : (s.updGrant k f).rq = s.rq := rfl
@[simp] theorem State.updGrant_sp (k : Nat) (f : GrantRec → GrantRec) : (s.updGrant k f).sp = s.sp := rfl
@[simp] theorem State.updGrant_pending (k : Nat) (f : GrantRec → GrantRec) : (s.updGrant k f).pending = s.pending := rfl

/-! mapGrants -/

@[simp] theorem State.mapGrants_site (f : GrantRec → GrantRec) : (s.mapGrants f).site = s.site := rfl
@[simp] theorem State.mapGrants_cfg (f : GrantRec → GrantRec) : (s.mapGrants f).cfg = s.cfg := rfl
@[simp] theorem State.mapGrants_jl (f : GrantRec → GrantRec) : (s.mapGrants f).jl = s.jl := rfl
@[simp] theorem State.mapGrants_straps (f : GrantRec → GrantRec) : (s.mapGrants f).straps = s.straps := rfl
@[simp] theorem State.mapGrants_rd (f : GrantRec → GrantRec) : (s.mapGrants f).rd = s.rd := rfl
@[simp] theorem State.mapGrants_held (f : GrantRec → GrantRec) : (s.mapGrants f).held = s.held := rfl
@[simp] theorem State.mapGrants_tb (f : GrantRec → GrantRec) : (s.mapGrants f).tb = s.tb := rfl
@[simp] theorem State.mapGrants_ls (f : GrantRec → GrantRec) : (s.mapGrants f).ls = s.ls := rfl
@[simp] theorem State.mapGrants_mi (f : GrantRec → GrantRec) : (s.mapGrants f).mi = s.mi := rfl
@[simp] theorem State.mapGrants_dg (f : GrantRec → GrantRec) : (s.mapGrants f).dg = s.dg := rfl
@[simp] theorem State.mapGrants_bt (f : GrantRec → GrantRec) : (s.mapGrants f).bt = s.bt := rfl
@[simp] theorem State.mapGrants_al (f : GrantRec → GrantRec) : (s.mapGrants f).al = s.al := rfl
@[simp] theorem State.mapGrants_so (f : GrantRec → GrantRec) : (s.mapGrants f).so = s.so := rfl
@[simp] theorem State.mapGrants_st (f : GrantRec → GrantRec) : (s.mapGrants f).st = s.st := rfl
@[simp] theorem State.mapGrants_vl (f : GrantRec → GrantRec) : (s.mapGrants f).vl = s.vl := rfl
@[simp] theorem State.mapGrants_rq (f : GrantRec → GrantRec) : (s.mapGrants f).rq = s.rq := rfl
@[simp] theorem State.mapGrants_sp (f : GrantRec → GrantRec) : (s.mapGrants f).sp = s.sp := rfl
@[simp] theorem State.mapGrants_pending (f : GrantRec → GrantRec) : (s.mapGrants f).pending = s.pending := rfl

/-! updSession -/

@[simp] theorem State.updSession_site (n : Nat) (f : Session → Session) : (s.updSession n f).site = s.site := rfl
@[simp] theorem State.updSession_cfg (n : Nat) (f : Session → Session) : (s.updSession n f).cfg = s.cfg := rfl
@[simp] theorem State.updSession_jl (n : Nat) (f : Session → Session) : (s.updSession n f).jl = s.jl := rfl
@[simp] theorem State.updSession_straps (n : Nat) (f : Session → Session) : (s.updSession n f).straps = s.straps := rfl
@[simp] theorem State.updSession_rd (n : Nat) (f : Session → Session) : (s.updSession n f).rd = s.rd := rfl
@[simp] theorem State.updSession_held (n : Nat) (f : Session → Session) : (s.updSession n f).held = s.held := rfl
@[simp] theorem State.updSession_tb (n : Nat) (f : Session → Session) : (s.updSession n f).tb = s.tb := rfl
@[simp] theorem State.updSession_ls (n : Nat) (f : Session → Session) : (s.updSession n f).ls = s.ls := rfl
@[simp] theorem State.updSession_mi (n : Nat) (f : Session → Session) : (s.updSession n f).mi = s.mi := rfl
@[simp] theorem State.updSession_dg (n : Nat) (f : Session → Session) : (s.updSession n f).dg = s.dg := rfl
@[simp] theorem State.updSession_bt (n : Nat) (f : Session → Session) : (s.updSession n f).bt = s.bt := rfl
@[simp] theorem State.updSession_al (n : Nat) (f : Session → Session) : (s.updSession n f).al = s.al := rfl
@[simp] theorem State.updSession_gt (n : Nat) (f : Session → Session) : (s.updSession n f).gt = s.gt := rfl
@[simp] theorem State.updSession_so (n : Nat) (f : Session → Session) : (s.updSession n f).so = s.so := rfl
@[simp] theorem State.updSession_vl (n : Nat) (f : Session → Session) : (s.updSession n f).vl = s.vl := rfl
@[simp] theorem State.updSession_rq (n : Nat) (f : Session → Session) : (s.updSession n f).rq = s.rq := rfl
@[simp] theorem State.updSession_sp (n : Nat) (f : Session → Session) : (s.updSession n f).sp = s.sp := rfl
@[simp] theorem State.updSession_pending (n : Nat) (f : Session → Session) : (s.updSession n f).pending = s.pending := rfl

/-! updVoucher -/

@[simp] theorem State.updVoucher_site (n : Nat) (f : Voucher → Voucher) : (s.updVoucher n f).site = s.site := rfl
@[simp] theorem State.updVoucher_cfg (n : Nat) (f : Voucher → Voucher) : (s.updVoucher n f).cfg = s.cfg := rfl
@[simp] theorem State.updVoucher_jl (n : Nat) (f : Voucher → Voucher) : (s.updVoucher n f).jl = s.jl := rfl
@[simp] theorem State.updVoucher_straps (n : Nat) (f : Voucher → Voucher) : (s.updVoucher n f).straps = s.straps := rfl
@[simp] theorem State.updVoucher_rd (n : Nat) (f : Voucher → Voucher) : (s.updVoucher n f).rd = s.rd := rfl
@[simp] theorem State.updVoucher_held (n : Nat) (f : Voucher → Voucher) : (s.updVoucher n f).held = s.held := rfl
@[simp] theorem State.updVoucher_tb (n : Nat) (f : Voucher → Voucher) : (s.updVoucher n f).tb = s.tb := rfl
@[simp] theorem State.updVoucher_ls (n : Nat) (f : Voucher → Voucher) : (s.updVoucher n f).ls = s.ls := rfl
@[simp] theorem State.updVoucher_mi (n : Nat) (f : Voucher → Voucher) : (s.updVoucher n f).mi = s.mi := rfl
@[simp] theorem State.updVoucher_dg (n : Nat) (f : Voucher → Voucher) : (s.updVoucher n f).dg = s.dg := rfl
@[simp] theorem State.updVoucher_bt (n : Nat) (f : Voucher → Voucher) : (s.updVoucher n f).bt = s.bt := rfl
@[simp] theorem State.updVoucher_al (n : Nat) (f : Voucher → Voucher) : (s.updVoucher n f).al = s.al := rfl
@[simp] theorem State.updVoucher_gt (n : Nat) (f : Voucher → Voucher) : (s.updVoucher n f).gt = s.gt := rfl
@[simp] theorem State.updVoucher_so (n : Nat) (f : Voucher → Voucher) : (s.updVoucher n f).so = s.so := rfl
@[simp] theorem State.updVoucher_st (n : Nat) (f : Voucher → Voucher) : (s.updVoucher n f).st = s.st := rfl
@[simp] theorem State.updVoucher_rq (n : Nat) (f : Voucher → Voucher) : (s.updVoucher n f).rq = s.rq := rfl
@[simp] theorem State.updVoucher_sp (n : Nat) (f : Voucher → Voucher) : (s.updVoucher n f).sp = s.sp := rfl
@[simp] theorem State.updVoucher_pending (n : Nat) (f : Voucher → Voucher) : (s.updVoucher n f).pending = s.pending := rfl

/-! updChan -/

@[simp] theorem State.updChan_site (c : Channel) (f : ChannelState → ChannelState) : (s.updChan c f).site = s.site := rfl
@[simp] theorem State.updChan_cfg (c : Channel) (f : ChannelState → ChannelState) : (s.updChan c f).cfg = s.cfg := rfl
@[simp] theorem State.updChan_jl (c : Channel) (f : ChannelState → ChannelState) : (s.updChan c f).jl = s.jl := rfl
@[simp] theorem State.updChan_straps (c : Channel) (f : ChannelState → ChannelState) : (s.updChan c f).straps = s.straps := rfl
@[simp] theorem State.updChan_rd (c : Channel) (f : ChannelState → ChannelState) : (s.updChan c f).rd = s.rd := rfl
@[simp] theorem State.updChan_held (c : Channel) (f : ChannelState → ChannelState) : (s.updChan c f).held = s.held := rfl
@[simp] theorem State.updChan_tb (c : Channel) (f : ChannelState → ChannelState) : (s.updChan c f).tb = s.tb := rfl
@[simp] theorem State.updChan_ls (c : Channel) (f : ChannelState → ChannelState) : (s.updChan c f).ls = s.ls := rfl
@[simp] theorem State.updChan_dg (c : Channel) (f : ChannelState → ChannelState) : (s.updChan c f).dg = s.dg := rfl
@[simp] theorem State.updChan_bt (c : Channel) (f : ChannelState → ChannelState) : (s.updChan c f).bt = s.bt := rfl
@[simp] theorem State.updChan_al (c : Channel) (f : ChannelState → ChannelState) : (s.updChan c f).al = s.al := rfl
@[simp] theorem State.updChan_gt (c : Channel) (f : ChannelState → ChannelState) : (s.updChan c f).gt = s.gt := rfl
@[simp] theorem State.updChan_so (c : Channel) (f : ChannelState → ChannelState) : (s.updChan c f).so = s.so := rfl
@[simp] theorem State.updChan_st (c : Channel) (f : ChannelState → ChannelState) : (s.updChan c f).st = s.st := rfl
@[simp] theorem State.updChan_vl (c : Channel) (f : ChannelState → ChannelState) : (s.updChan c f).vl = s.vl := rfl
@[simp] theorem State.updChan_rq (c : Channel) (f : ChannelState → ChannelState) : (s.updChan c f).rq = s.rq := rfl
@[simp] theorem State.updChan_sp (c : Channel) (f : ChannelState → ChannelState) : (s.updChan c f).sp = s.sp := rfl
@[simp] theorem State.updChan_pending (c : Channel) (f : ChannelState → ChannelState) : (s.updChan c f).pending = s.pending := rfl

/-! setWindow -/

@[simp] theorem State.setWindow_site (w : Option Window) : (s.setWindow w).site = s.site := rfl
@[simp] theorem State.setWindow_cfg (w : Option Window) : (s.setWindow w).cfg = s.cfg := rfl
@[simp] theorem State.setWindow_jl (w : Option Window) : (s.setWindow w).jl = s.jl := rfl
@[simp] theorem State.setWindow_straps (w : Option Window) : (s.setWindow w).straps = s.straps := rfl
@[simp] theorem State.setWindow_rd (w : Option Window) : (s.setWindow w).rd = s.rd := rfl
@[simp] theorem State.setWindow_held (w : Option Window) : (s.setWindow w).held = s.held := rfl
@[simp] theorem State.setWindow_tb (w : Option Window) : (s.setWindow w).tb = s.tb := rfl
@[simp] theorem State.setWindow_ls (w : Option Window) : (s.setWindow w).ls = s.ls := rfl
@[simp] theorem State.setWindow_mi (w : Option Window) : (s.setWindow w).mi = s.mi := rfl
@[simp] theorem State.setWindow_dg (w : Option Window) : (s.setWindow w).dg = { s.dg with window := w } := rfl
@[simp] theorem State.setWindow_bt (w : Option Window) : (s.setWindow w).bt = s.bt := rfl
@[simp] theorem State.setWindow_al (w : Option Window) : (s.setWindow w).al = s.al := rfl
@[simp] theorem State.setWindow_gt (w : Option Window) : (s.setWindow w).gt = s.gt := rfl
@[simp] theorem State.setWindow_so (w : Option Window) : (s.setWindow w).so = s.so := rfl
@[simp] theorem State.setWindow_st (w : Option Window) : (s.setWindow w).st = s.st := rfl
@[simp] theorem State.setWindow_vl (w : Option Window) : (s.setWindow w).vl = s.vl := rfl
@[simp] theorem State.setWindow_rq (w : Option Window) : (s.setWindow w).rq = s.rq := rfl
@[simp] theorem State.setWindow_sp (w : Option Window) : (s.setWindow w).sp = s.sp := rfl
@[simp] theorem State.setWindow_pending (w : Option Window) : (s.setWindow w).pending = s.pending := rfl

/-! writeDuties -/

@[simp] theorem State.writeDuties_site (x y : Nat) : (s.writeDuties x y).site = s.site := rfl
@[simp] theorem State.writeDuties_cfg (x y : Nat) : (s.writeDuties x y).cfg = s.cfg := rfl
@[simp] theorem State.writeDuties_jl (x y : Nat) : (s.writeDuties x y).jl = s.jl := rfl
@[simp] theorem State.writeDuties_straps (x y : Nat) : (s.writeDuties x y).straps = s.straps := rfl
@[simp] theorem State.writeDuties_rd (x y : Nat) : (s.writeDuties x y).rd = s.rd := rfl
@[simp] theorem State.writeDuties_held (x y : Nat) : (s.writeDuties x y).held = s.held := rfl
@[simp] theorem State.writeDuties_tb (x y : Nat) : (s.writeDuties x y).tb = s.tb := rfl
@[simp] theorem State.writeDuties_ls (x y : Nat) : (s.writeDuties x y).ls = s.ls := rfl
@[simp] theorem State.writeDuties_mi (x y : Nat) : (s.writeDuties x y).mi = s.mi := rfl
@[simp] theorem State.writeDuties_dg (x y : Nat) : (s.writeDuties x y).dg = s.dg := rfl
@[simp] theorem State.writeDuties_bt (x y : Nat) : (s.writeDuties x y).bt = s.bt := rfl
@[simp] theorem State.writeDuties_al (x y : Nat) : (s.writeDuties x y).al = s.al := rfl
@[simp] theorem State.writeDuties_gt (x y : Nat) : (s.writeDuties x y).gt = s.gt := rfl
@[simp] theorem State.writeDuties_so (x y : Nat) : (s.writeDuties x y).so = { bset := s.so.bset.write x, clim := s.so.clim.write y } := rfl
@[simp] theorem State.writeDuties_st (x y : Nat) : (s.writeDuties x y).st = s.st := rfl
@[simp] theorem State.writeDuties_vl (x y : Nat) : (s.writeDuties x y).vl = s.vl := rfl
@[simp] theorem State.writeDuties_rq (x y : Nat) : (s.writeDuties x y).rq = s.rq := rfl
@[simp] theorem State.writeDuties_sp (x y : Nat) : (s.writeDuties x y).sp = s.sp := rfl
@[simp] theorem State.writeDuties_pending (x y : Nat) : (s.writeDuties x y).pending = s.pending := rfl

/-! recordRound -/

@[simp] theorem State.recordRound_site (r : RoundResults) : (s.recordRound r).site = s.site := rfl
@[simp] theorem State.recordRound_cfg (r : RoundResults) : (s.recordRound r).cfg = s.cfg := rfl
@[simp] theorem State.recordRound_jl (r : RoundResults) : (s.recordRound r).jl = s.jl := rfl
@[simp] theorem State.recordRound_straps (r : RoundResults) : (s.recordRound r).straps = s.straps := rfl
@[simp] theorem State.recordRound_rd (r : RoundResults) : (s.recordRound r).rd = s.rd := rfl
@[simp] theorem State.recordRound_held (r : RoundResults) : (s.recordRound r).held = s.held := rfl
@[simp] theorem State.recordRound_tb (r : RoundResults) : (s.recordRound r).tb = s.tb := rfl
@[simp] theorem State.recordRound_ls (r : RoundResults) : (s.recordRound r).ls = s.ls := rfl
@[simp] theorem State.recordRound_mi (r : RoundResults) : (s.recordRound r).mi = s.mi := rfl
@[simp] theorem State.recordRound_dg (r : RoundResults) : (s.recordRound r).dg = s.dg := rfl
@[simp] theorem State.recordRound_bt (r : RoundResults) : (s.recordRound r).bt = s.bt := rfl
@[simp] theorem State.recordRound_gt (r : RoundResults) : (s.recordRound r).gt = s.gt := rfl
@[simp] theorem State.recordRound_so (r : RoundResults) : (s.recordRound r).so = s.so := rfl
@[simp] theorem State.recordRound_st (r : RoundResults) : (s.recordRound r).st = s.st := rfl
@[simp] theorem State.recordRound_vl (r : RoundResults) : (s.recordRound r).vl = s.vl := rfl
@[simp] theorem State.recordRound_rq (r : RoundResults) : (s.recordRound r).rq = s.rq := rfl
@[simp] theorem State.recordRound_sp (r : RoundResults) : (s.recordRound r).sp = s.sp := rfl
@[simp] theorem State.recordRound_pending (r : RoundResults) : (s.recordRound r).pending = s.pending := rfl

/-! Inside the blocks -/

@[simp] theorem State.updBay_bays (k : Nat) (f : BayRec → BayRec) :
    (s.updBay k f).bt.bays = s.bt.bays.map fun b => if b.number = k then f b else b := rfl
@[simp] theorem State.updBay_slotWait (k : Nat) (f : BayRec → BayRec) :
    (s.updBay k f).bt.slotWait = s.bt.slotWait := rfl
@[simp] theorem State.mapBays_bays (f : BayRec → BayRec) : (s.mapBays f).bt.bays = s.bt.bays.map f := rfl
@[simp] theorem State.mapBays_slotWait (f : BayRec → BayRec) : (s.mapBays f).bt.slotWait = s.bt.slotWait := rfl
@[simp] theorem State.updGrant_grants (k : Nat) (f : GrantRec → GrantRec) :
    (s.updGrant k f).gt.grants = s.gt.grants.map fun x => if x.bay = k then f x else x := rfl
@[simp] theorem State.updGrant_eg (k : Nat) (f : GrantRec → GrantRec) : (s.updGrant k f).gt.eg = s.gt.eg := rfl
@[simp] theorem State.updGrant_ea (k : Nat) (f : GrantRec → GrantRec) : (s.updGrant k f).gt.ea = s.gt.ea := rfl
@[simp] theorem State.mapGrants_grants (f : GrantRec → GrantRec) :
    (s.mapGrants f).gt.grants = s.gt.grants.map f := rfl
@[simp] theorem State.mapGrants_eg (f : GrantRec → GrantRec) : (s.mapGrants f).gt.eg = s.gt.eg := rfl
@[simp] theorem State.mapGrants_ea (f : GrantRec → GrantRec) : (s.mapGrants f).gt.ea = s.gt.ea := rfl
@[simp] theorem State.updSession_sessions (n : Nat) (f : Session → Session) :
    (s.updSession n f).st.sessions = s.st.sessions.map fun x => if x.number = n then f x else x := rfl
@[simp] theorem State.updSession_pendingOrder (n : Nat) (f : Session → Session) :
    (s.updSession n f).st.pendingOrder = s.st.pendingOrder := rfl
@[simp] theorem State.updSession_nextSession (n : Nat) (f : Session → Session) :
    (s.updSession n f).st.nextSession = s.st.nextSession := rfl
@[simp] theorem State.updVoucher_vouchers (n : Nat) (f : Voucher → Voucher) :
    (s.updVoucher n f).vl.vouchers = s.vl.vouchers.map fun v => if v.number = n then f v else v := rfl
@[simp] theorem State.updChan_soc (c : Channel) (f : ChannelState → ChannelState) :
    (s.updChan c f).mi.soc = s.mi.soc := rfl
@[simp] theorem State.updChan_socClipped (c : Channel) (f : ChannelState → ChannelState) :
    (s.updChan c f).mi.socClipped = s.mi.socClipped := rfl
@[simp] theorem State.updChan_bfull (c : Channel) (f : ChannelState → ChannelState) :
    (s.updChan c f).mi.bfull = s.mi.bfull := rfl
@[simp] theorem State.updChan_bempty (c : Channel) (f : ChannelState → ChannelState) :
    (s.updChan c f).mi.bempty = s.mi.bempty := rfl

/-! Ports and channels: what a change of one leaves of each -/

@[simp] theorem StationPorts.get_set_same (x : StationPorts) (p : Port) (v : PortState) : (x.set p v).get p = v := by
  cases p <;> rfl

theorem StationPorts.get_set_other (x : StationPorts) {p q : Port} (v : PortState) (h : q ≠ p) :
    (x.set p v).get q = x.get q := by
  cases p <;> cases q <;> first | rfl | exact absurd rfl h

@[simp] theorem StationPorts.set_set (x : StationPorts) (p : Port) (v w : PortState) :
    (x.set p v).set p w = x.set p w := by
  cases p <;> rfl

@[simp] theorem State.port_updPort_same (p : Port) (f : PortState → PortState) :
    (s.updPort p f).port p = f (s.port p) := StationPorts.get_set_same _ _ _

theorem State.port_updPort_other {p q : Port} (f : PortState → PortState) (h : q ≠ p) :
    (s.updPort p f).port q = s.port q := StationPorts.get_set_other _ _ h

theorem State.port_updPort (p q : Port) (f : PortState → PortState) :
    (s.updPort p f).port q = if q = p then f (s.port p) else s.port q := by
  split
  · next h => subst h; simp
  · next h => exact s.port_updPort_other f h

@[simp] theorem Five.get_set_same {α : Type} (x : Five α) (c : Channel) (v : α) : (x.set c v).get c = v := by
  cases c <;> rfl

theorem Five.get_set_other {α : Type} (x : Five α) {c d : Channel} (v : α) (h : d ≠ c) :
    (x.set c v).get d = x.get d := by
  cases c <;> cases d <;> first | rfl | exact absurd rfl h

@[simp] theorem Five.set_set {α : Type} (x : Five α) (c : Channel) (v w : α) : (x.set c v).set c w = x.set c w := by
  cases c <;> rfl

@[simp] theorem State.chan_updChan_same (c : Channel) (f : ChannelState → ChannelState) :
    (s.updChan c f).chan c = f (s.chan c) := Five.get_set_same _ _ _

/-- A raise changes a port's event notices alone (R160). -/
theorem State.port_raise (p q : Port) (n : Notice) (a b : Detail) :
    ∃ e, (s.raise p n a b).port q = { s.port q with events := e } := by
  rw [State.raise, State.port_updPort]
  split
  · next h => subst h; exact ⟨_, rfl⟩
  · exact ⟨_, rfl⟩

@[simp] theorem State.raise_presence (p q : Port) (n : Notice) (a b : Detail) :
    ((s.raise p n a b).port q).presence = (s.port q).presence := by
  obtain ⟨e, h⟩ := s.port_raise p q n a b; rw [h]

@[simp] theorem State.raise_tx (p q : Port) (n : Notice) (a b : Detail) :
    ((s.raise p n a b).port q).tx = (s.port q).tx := by
  obtain ⟨e, h⟩ := s.port_raise p q n a b; rw [h]

@[simp] theorem State.raise_isPresent (p q : Port) (n : Notice) (a b : Detail) :
    (s.raise p n a b).isPresent q = s.isPresent q := by
  simp [State.isPresent]

end Sys2Proof.Machine
end

