-- ==== Sys2Proof/Laws/Frames.lean ====
section
/-! SUPPORT. One lemma for each operation that says which blocks it can change: it is the state with those blocks
replaced, and every other field is as before. -/

namespace Sys2Proof.Machine

variable (s : State)

theorem State.takeEpoch_frame (f : Nat → Bool) :
    ∃ gt sp, s.takeEpoch f = { s with gt := gt, sp := sp } :=
  ⟨_, _, rfl⟩

theorem State.returnGrants_frame :
    ∃ gt sp, s.returnGrants = { s with gt := gt, sp := sp } :=
  ⟨_, _, rfl⟩

theorem State.onReturn_frame (p : Port) :
    ∃ gt rq sp, s.onReturn p = { s with gt := gt, rq := rq, sp := sp } := by
  cases p
  · unfold State.onReturn; dsimp only; split
    · exact ⟨_, _, _, rfl⟩
    · exact ⟨_, _, _, rfl⟩
  · exact ⟨_, _, _, rfl⟩
  · exact ⟨_, _, _, rfl⟩

theorem State.frameValid_frame (p : Port) :
    ∃ gt rq sp, s.frameValid p = { s with gt := gt, rq := rq, sp := sp } := by
  unfold State.frameValid; dsimp only; split
  · exact ⟨_, _, _, rfl⟩
  · obtain ⟨gt, rq, sp, h⟩ := (s.updPort p fun x => { x with presence := .present, timer := some s.tb.ms }).onReturn_frame p
    rw [h]; exact ⟨_, _, _, rfl⟩

theorem State.arrive_frame (p : Port) :
    ∃ gt rq sp, s.arrive p = { s with gt := gt, rq := rq, sp := sp } := by
  obtain ⟨gt, rq, sp, h⟩ := (s.emptyReceiver p).frameValid_frame p
  rw [State.arrive, h]; exact ⟨_, _, _, rfl⟩

theorem State.countOverrun_frame (p : Port) :
    ∃ sp, s.countOverrun p = { s with sp := sp } :=
  ⟨_, rfl⟩

theorem State.clearNotice_frame (p : Port) (x : Option (Nat × Notice)) :
    ∃ sp, s.clearNotice p x = { s with sp := sp } := by
  unfold State.clearNotice; split <;> exact ⟨_, rfl⟩

theorem State.discardFrame_frame (p : Port) :
    ∃ sp, s.discardFrame p = { s with sp := sp } := by
  unfold State.discardFrame
  split
  · exact ⟨_, rfl⟩
  · split
    · exact ⟨_, rfl⟩
    · split <;> exact ⟨_, rfl⟩

theorem State.unknownFrame_frame (p : Port) (tag code : Byte) :
    ∃ sp, s.unknownFrame p tag code = { s with sp := sp } := by
  unfold State.unknownFrame
  split
  · split <;> exact ⟨_, rfl⟩
  · exact ⟨_, rfl⟩

theorem State.takePending_frame :
    ∃ ls sp, s.takePending = { s with ls := ls, sp := sp } := by
  unfold State.takePending; split <;> exact ⟨_, _, rfl⟩

theorem State.chooseActive_frame :
    ∃ ls, s.chooseActive = { s with ls := ls } := by
  unfold State.chooseActive
  split
  · split <;> exact ⟨_, rfl⟩
  · exact ⟨_, rfl⟩

theorem State.tickLimits_frame :
    ∃ ls sp, s.tickLimits = { s with ls := ls, sp := sp } := by
  obtain ⟨ls, sp, h⟩ := s.takePending_frame
  obtain ⟨ls', h'⟩ := s.takePending.rebuildSafe.chooseActive_frame
  rw [State.tickLimits, h', State.rebuildSafe, h]; exact ⟨_, _, rfl⟩

theorem State.recordWindow_frame (w : Window) (n : Nat) (cut : Bool) :
    ∃ dg sp, s.recordWindow w n cut = { s with dg := dg, sp := sp } := by
  unfold State.recordWindow; dsimp only; split <;> exact ⟨_, _, rfl⟩

theorem State.clockCut_frame (before : State) :
    ∃ dg sp, s.clockCut before = { s with dg := dg, sp := sp } := by
  unfold State.clockCut
  split
  · exact ⟨_, _, rfl⟩
  · next w _ =>
    obtain ⟨dg, sp, h⟩ := s.recordWindow_frame w (before.cutLength w) true
    dsimp only; rw [h]; exact ⟨_, _, rfl⟩

theorem State.configureCut_frame :
    ∃ dg sp, s.configureCut = { s with dg := dg, sp := sp } := by
  unfold State.configureCut
  split
  · exact ⟨_, _, rfl⟩
  · next w _ =>
    obtain ⟨dg, sp, h⟩ := s.recordWindow_frame w (s.cutLength w) true
    rw [h]; exact ⟨_, _, rfl⟩

theorem State.endWindow_frame :
    ∃ dg sp, s.endWindow = { s with dg := dg, sp := sp } := by
  unfold State.endWindow
  split
  · exact ⟨_, _, rfl⟩
  · next w _ =>
    split
    · obtain ⟨dg, sp, h⟩ := s.recordWindow_frame w w.length false
      dsimp only; rw [h]; exact ⟨_, _, rfl⟩
    · exact ⟨_, _, rfl⟩

theorem State.importEnergy_frame (n : Nat) :
    ∃ dg, s.importEnergy n = { s with dg := dg } := by
  unfold State.importEnergy; split <;> exact ⟨_, rfl⟩

theorem State.tickGuard_frame :
    ∃ dg, s.tickGuard = { s with dg := dg } := by
  unfold State.tickGuard
  split
  · exact ⟨_, rfl⟩
  · split <;> exact ⟨_, rfl⟩

theorem State.comeToTick_frame :
    ∃ jl tb, s.comeToTick = { s with jl := jl, tb := tb } := by
  unfold State.comeToTick; split <;> exact ⟨_, _, rfl⟩

theorem State.advanceMs_frame :
    ∃ jl tb, s.advanceMs = { s with jl := jl, tb := tb } :=
  ⟨_, _, rfl⟩

theorem State.countMinute_frame :
    ∃ jl tb, s.countMinute = { s with jl := jl, tb := tb } := by
  unfold State.countMinute; split <;> exact ⟨_, _, rfl⟩

theorem State.endPeriod_frame :
    ∃ jl tb so, s.endPeriod = { s with jl := jl, tb := tb, so := so } := by
  unfold State.endPeriod; dsimp only; split <;> exact ⟨_, _, _, rfl⟩

theorem State.handPulse_frame (c : Channel) :
    ∃ mi dg, s.handPulse c = { s with mi := mi, dg := dg } := by
  cases c
  · obtain ⟨dg, h⟩ := s.importEnergy_frame (s.chanCfg .gridIn).weight
    rw [State.handPulse, h]; exact ⟨_, _, rfl⟩
  · exact ⟨_, _, rfl⟩
  · exact ⟨_, _, rfl⟩
  · unfold State.handPulse State.chargeSoc; dsimp only; split <;> exact ⟨_, _, rfl⟩
  · exact ⟨_, _, rfl⟩

theorem State.takePulse_frame (c : Channel) :
    ∃ mi dg, s.takePulse c = { s with mi := mi, dg := dg } := by
  obtain ⟨mi, dg, h⟩ := (s.updChan c (ChannelState.pulse s.tb.ms s.silenceMs)).handPulse_frame c
  rw [State.takePulse, h]; exact ⟨_, _, rfl⟩

theorem State.sampleChannel_frame (c : Channel) (x : Bool) :
    ∃ mi dg, s.sampleChannel c x = { s with mi := mi, dg := dg } := by
  unfold State.sampleChannel; dsimp only
  split
  · split
    · split
      · obtain ⟨mi, dg, h⟩ := State.takePulse_frame (((s.updChan c fun y =>
          { y with filt := some (filterStep (s.chanCfg c).filter y.filt x) }).updChan c fun y =>
          { y with accepted := some x })) c
        rw [h]; exact ⟨_, _, rfl⟩
      · exact ⟨_, _, rfl⟩
    · exact ⟨_, _, rfl⟩
  · exact ⟨_, _, rfl⟩

theorem State.setBound_frame (b : BoundLine) (x : BoundState) :
    ∃ mi, s.setBound b x = { s with mi := mi } := by
  cases b <;> exact ⟨_, rfl⟩

theorem State.sampleBound_frame (b : BoundLine) (x : Bool) :
    ∃ mi sp, s.sampleBound b x = { s with mi := mi, sp := sp } := by
  unfold State.sampleBound; dsimp only
  split
  · obtain ⟨mi, h⟩ := s.setBound_frame b ⟨some x, some (filterStep Config.boundFilter (s.bound b).filt x)⟩
    split
    · rw [h]; exact ⟨_, _, rfl⟩
    · rw [h]; exact ⟨_, _, rfl⟩
  · obtain ⟨mi, h⟩ := s.setBound_frame b { s.bound b with filt := some (filterStep Config.boundFilter (s.bound b).filt x) }
    rw [h]; exact ⟨_, _, rfl⟩

theorem State.expireSilence_frame (c : Channel) :
    ∃ mi sp, s.expireSilence c = { s with mi := mi, sp := sp } := by
  unfold State.expireSilence; split <;> exact ⟨_, _, rfl⟩

theorem State.raiseOne_frame (l : List (Nat × Nat)) (cb k : Nat) :
    ∃ gt, s.raiseOne l cb k = { s with gt := gt } := by
  unfold State.raiseOne
  split
  · exact ⟨_, rfl⟩
  · dsimp only; split
    · split <;> exact ⟨_, rfl⟩
    · exact ⟨_, rfl⟩

theorem State.raiseAll_frame (l : List (Nat × Nat)) (cb : Nat) (ks : List Nat) :
    ∃ gt, ks.foldl (State.raiseOne l cb) s = { s with gt := gt } := by
  induction ks generalizing s with
  | nil => exact ⟨_, rfl⟩
  | cons k ks ih =>
    obtain ⟨gt, h⟩ := s.raiseOne_frame l cb k
    obtain ⟨gt', h'⟩ := ih (s.raiseOne l cb k)
    rw [List.foldl_cons, h', h]; exact ⟨_, rfl⟩

theorem State.issuePasses_frame (l : List (Nat × Nat)) (cb : Nat) :
    ∃ gt, s.issuePasses l cb = { s with gt := gt } := by
  obtain ⟨gt, h⟩ := (s.mapGrants (reduceGrant s.tb.ms l)).raiseAll_frame l cb s.admissionBays
  rw [State.issuePasses, h]; exact ⟨_, rfl⟩

theorem State.issueTargets_frame (l : List (Nat × Nat)) (cb : Nat) :
    ∃ gt sp, s.issueTargets l cb = { s with gt := gt, sp := sp } := by
  obtain ⟨gt, h⟩ := s.issuePasses_frame l cb
  unfold State.issueTargets; dsimp only; rw [h]; split <;> exact ⟨_, _, rfl⟩

theorem State.lowerByReport_frame (k n : Nat) :
    ∃ gt sp, s.lowerByReport k n = { s with gt := gt, sp := sp } := by
  unfold State.lowerByReport; split <;> exact ⟨_, _, rfl⟩

theorem State.outGrant_frame (k : Nat) :
    ∃ gt sp, s.outGrant k = { s with gt := gt, sp := sp } := by
  unfold State.outGrant; dsimp only; split <;> exact ⟨_, _, rfl⟩

theorem State.expireOverdue_frame (k : Nat) :
    ∃ gt, s.expireOverdue k = { s with gt := gt } := by
  unfold State.expireOverdue; split <;> exact ⟨_, rfl⟩

theorem State.openSession_frame (k base : Nat) (x : BayState) (m : Option Nat) :
    ∃ bt st, s.openSession k base x m = { s with bt := bt, st := st } :=
  ⟨_, _, rfl⟩

theorem State.admitHead_frame :
    ∃ bt st, s.admitHead = { s with bt := bt, st := st } := by
  unfold State.admitHead
  split
  · exact ⟨_, _, rfl⟩
  · dsimp only; split <;> exact ⟨_, _, rfl⟩

theorem State.passReading_frame (n : Option Nat) (r dt m : Nat) :
    ∃ st, s.passReading n r dt m = { s with st := st } := by
  unfold State.passReading; split <;> exact ⟨_, rfl⟩

theorem State.receiptSession_frame (n : Nat) :
    ∃ bt st rq, s.receiptSession n = { s with bt := bt, st := st, rq := rq } := by
  unfold State.receiptSession
  split
  · exact ⟨_, _, _, rfl⟩
  · next x _ =>
    obtain ⟨bt, st, h⟩ := ((s.buildReceipt x).dropSession n).admitHead_frame
    rw [h]; exact ⟨_, _, _, rfl⟩

theorem State.askPlace_frame (n : Nat) :
    ∃ bt st rq, s.askPlace n = { s with bt := bt, st := st, rq := rq } := by
  unfold State.askPlace
  split
  · exact s.receiptSession_frame n
  · exact ⟨_, _, _, rfl⟩

theorem State.fillPlace_frame :
    ∃ bt st rq, s.fillPlace = { s with bt := bt, st := st, rq := rq } := by
  unfold State.fillPlace
  split
  · split
    · exact ⟨_, _, _, rfl⟩
    · next n rest _ =>
      obtain ⟨bt, st, rq, h⟩ := State.receiptSession_frame { s with st := { s.st with pendingOrder := rest } } n
      rw [h]; exact ⟨_, _, _, rfl⟩
  · exact ⟨_, _, _, rfl⟩

theorem State.fillPlaces_frame (k : Nat) :
    ∃ bt st rq, State.fillPlaces k s = { s with bt := bt, st := st, rq := rq } := by
  induction k generalizing s with
  | zero => exact ⟨_, _, _, rfl⟩
  | succ k ih =>
    obtain ⟨bt, st, rq, h⟩ := s.fillPlace_frame
    obtain ⟨bt', st', rq', h'⟩ := ih s.fillPlace
    rw [State.fillPlaces, h', h]; exact ⟨_, _, _, rfl⟩

theorem State.dropVoucher_frame (v : Option Nat) :
    ∃ vl, s.dropVoucher v = { s with vl := vl } := by
  cases v <;> exact ⟨_, rfl⟩

theorem State.closeSession_frame (k : Nat) (c : CloseCause) (x : BayState) :
    ∃ bt st vl rq, s.closeSession k c x = { s with bt := bt, st := st, vl := vl, rq := rq } := by
  unfold State.closeSession; dsimp only
  split
  · exact ⟨_, _, _, _, rfl⟩
  · next n _ =>
    obtain ⟨vl, h⟩ := ((s.updBay k fun b => { b.leave x with session := none }).updSession n
      (Session.close s.stamp s.tb.clockSet c)).dropVoucher_frame ((s.session n).bind (·.voucher))
    rw [h]
    obtain ⟨bt, st, rq, h'⟩ := State.askPlace_frame { (s.updBay k fun b => { b.leave x with session := none }).updSession n
      (Session.close s.stamp s.tb.clockSet c) with vl := vl } n
    rw [h']; exact ⟨_, _, _, _, rfl⟩

theorem State.reportShortfall_frame (f : RoundFigures) :
    ∃ sp, s.reportShortfall f = { s with sp := sp } := by
  unfold State.reportShortfall; split <;> exact ⟨_, rfl⟩

theorem State.handTargets_frame (f : RoundFigures) :
    ∃ gt sp, s.handTargets f = { s with gt := gt, sp := sp } := by
  unfold State.handTargets; split
  · exact s.issueTargets_frame f.targets f.cb
  · exact ⟨_, _, rfl⟩

theorem State.round_frame :
    ∃ bt al gt so sp, s.round = { s with bt := bt, al := al, gt := gt, so := so, sp := sp } := by
  obtain ⟨sp, h⟩ := s.reportShortfall_frame s.figures
  obtain ⟨gt, sp', h'⟩ := ((s.reportShortfall s.figures).ageBays s.figures.shared.targets).handTargets_frame s.figures
  unfold State.round; dsimp only; rw [h', h]; exact ⟨_, _, _, _, _, rfl⟩

theorem State.tick_frame :
    ∃ jl tb ls dg bt al gt so sp, s.tick = { s with jl := jl, tb := tb, ls := ls, dg := dg, bt := bt, al := al, gt := gt, so := so, sp := sp } := by
  obtain ⟨jl, tb, h1⟩ := s.comeToTick_frame
  obtain ⟨ls, sp, h2⟩ := s.comeToTick.tickLimits_frame
  obtain ⟨dg, h3⟩ := s.comeToTick.tickLimits.tickGuard_frame
  obtain ⟨bt, al, gt, so, sp', h4⟩ := s.comeToTick.tickLimits.tickGuard.markStale.round_frame
  rw [State.tick, h4, State.scheduleNext, State.markStale, h3, h2, h1]; exact ⟨_, _, _, _, _, _, _, _, _, rfl⟩

theorem State.reportCharging_frame (b : BayRec) (x : ReportEntry) (dt : Nat) :
    ∃ bt st vl rq, s.reportCharging b x dt = { s with bt := bt, st := st, vl := vl, rq := rq } := by
  obtain ⟨st, h⟩ := s.passReading_frame b.session x.reading dt x.connectorMax
  unfold State.reportCharging; dsimp only; rw [h]
  split
  · exact ⟨_, _, _, _, rfl⟩
  · obtain ⟨bt, st', vl, rq, h'⟩ := State.closeSession_frame { s with st := st } x.bay .unplugged .vacant
    rw [h']; exact ⟨_, _, _, _, rfl⟩

theorem State.reportAction_frame (b : BayRec) (x : ReportEntry) (dt : Nat) :
    ∃ bt st vl rq, s.reportAction b x dt = { s with bt := bt, st := st, vl := vl, rq := rq } := by
  unfold State.reportAction
  split
  · split
    · split <;> exact ⟨_, _, _, _, rfl⟩
    · exact ⟨_, _, _, _, rfl⟩
  · split <;> exact ⟨_, _, _, _, rfl⟩
  · exact s.reportCharging_frame b x dt
  · split <;> exact ⟨_, _, _, _, rfl⟩
  · obtain ⟨bt, st, vl, rq, h⟩ := (s.updBay x.bay (BayRec.leave .active)).reportCharging_frame b x dt
    rw [h]; exact ⟨_, _, _, _, rfl⟩
  · exact ⟨_, _, _, _, rfl⟩

theorem State.refreshBay_frame (b : BayRec) (x : ReportEntry) :
    ∃ bt gt sp, s.refreshBay b x = { s with bt := bt, gt := gt, sp := sp } := by
  unfold State.refreshBay; dsimp only
  split
  · obtain ⟨gt, sp, h⟩ := (s.updBay x.bay (BayRec.refresh s.tb.ms x)).lowerByReport_frame x.bay
      ((s.updBay x.bay (BayRec.refresh s.tb.ms x)).bayMax (b.refresh s.tb.ms x))
    rw [h]; exact ⟨_, _, _, rfl⟩
  · exact ⟨_, _, _, rfl⟩

theorem State.takeEntry_frame (x : ReportEntry) :
    ∃ bt gt st vl rq sp, s.takeEntry x = { s with bt := bt, gt := gt, st := st, vl := vl, rq := rq, sp := sp } := by
  unfold State.takeEntry
  split
  · exact ⟨_, _, _, _, _, _, rfl⟩
  · next b _ =>
    obtain ⟨bt, gt, sp, h⟩ := s.refreshBay_frame b x
    obtain ⟨bt', st, vl, rq, h'⟩ := (s.refreshBay b x).reportAction_frame b x (elapsed s.tb.ms b.lastReport)
    rw [h', h]; exact ⟨_, _, _, _, _, _, rfl⟩

theorem State.takeEntries_frame (l : List ReportEntry) :
    ∃ bt gt st vl rq sp, (takeEntries l s).1 = { s with bt := bt, gt := gt, st := st, vl := vl, rq := rq, sp := sp } := by
  induction l generalizing s with
  | nil => exact ⟨_, _, _, _, _, _, rfl⟩
  | cons x l ih =>
    obtain ⟨bt, gt, st, vl, rq, sp, h⟩ := s.takeEntry_frame x
    obtain ⟨bt', gt', st', vl', rq', sp', h'⟩ := ih (s.takeEntry x)
    rw [takeEntries]; dsimp only; rw [h', h]; exact ⟨_, _, _, _, _, _, rfl⟩

theorem State.takeOut_frame (b : BayRec) :
    ∃ bt gt st vl rq sp, s.takeOut b = { s with bt := bt, gt := gt, st := st, vl := vl, rq := rq, sp := sp } := by
  unfold State.takeOut
  split
  iterate 2
    · obtain ⟨bt, st, vl, rq, h⟩ := s.closeSession_frame b.number .outOfService .outOfService
      obtain ⟨gt, sp, h'⟩ := (s.closeSession b.number .outOfService .outOfService).outGrant_frame b.number
      rw [h', h]; exact ⟨_, _, _, _, _, _, rfl⟩
  · obtain ⟨gt, sp, h⟩ := ((s.leaveWait b.number).setBayState b.number .outOfService).outGrant_frame b.number
    rw [h]; exact ⟨_, _, _, _, _, _, rfl⟩
  iterate 2
    · obtain ⟨gt, sp, h⟩ := (s.setBayState b.number .outOfService).outGrant_frame b.number
      rw [h]; exact ⟨_, _, _, _, _, _, rfl⟩
  · exact ⟨_, _, _, _, _, _, rfl⟩

theorem State.takeIn_frame (b : BayRec) :
    ∃ bt, s.takeIn b = { s with bt := bt } := by
  unfold State.takeIn; split <;> exact ⟨_, rfl⟩

theorem State.lapseTreatment_frame :
    ∃ bt gt, s.lapseTreatment = { s with bt := bt, gt := gt } :=
  ⟨_, _, rfl⟩

theorem State.abandonAll_frame (ks : List Nat) :
    ∃ bt st vl rq, ks.foldl State.abandonBay s = { s with bt := bt, st := st, vl := vl, rq := rq } := by
  induction ks generalizing s with
  | nil => exact ⟨_, _, _, _, rfl⟩
  | cons k ks ih =>
    obtain ⟨bt, st, vl, rq, h⟩ := s.closeSession_frame k .abandoned .done
    obtain ⟨bt', st', vl', rq', h'⟩ := ih (s.abandonBay k)
    rw [List.foldl_cons, h', State.abandonBay, h]; exact ⟨_, _, _, _, rfl⟩

theorem State.abandon_frame :
    ∃ bt st vl rq, s.abandon = { s with bt := bt, st := st, vl := vl, rq := rq } := by
  unfold State.abandon; split
  · exact s.abandonAll_frame _
  · exact ⟨_, _, _, _, rfl⟩

theorem State.expirePresence_frame (p : Port) :
    ∃ bt gt sp, s.expirePresence p = { s with bt := bt, gt := gt, sp := sp } := by
  unfold State.expirePresence
  split
  · cases p
    · dsimp only; split <;> exact ⟨_, _, _, rfl⟩
    · exact ⟨_, _, _, rfl⟩
    · exact ⟨_, _, _, rfl⟩
  · exact ⟨_, _, _, rfl⟩

theorem State.withdrawCredit_frame (n : Option Nat) :
    ∃ st, s.withdrawCredit n = { s with st := st } := by
  cases n <;> exact ⟨_, rfl⟩

theorem State.raiseExpiredAll_frame (l : List Voucher) :
    ∃ sp, l.foldl State.raiseExpired s = { s with sp := sp } := by
  induction l generalizing s with
  | nil => exact ⟨_, rfl⟩
  | cons v l ih =>
    obtain ⟨sp, h⟩ := ih (s.raiseExpired v)
    rw [List.foldl_cons, h, State.raiseExpired]; exact ⟨_, rfl⟩

theorem State.expireVouchers_frame :
    ∃ vl sp, s.expireVouchers = { s with vl := vl, sp := sp } := by
  unfold State.expireVouchers; dsimp only
  obtain ⟨sp, h⟩ := State.raiseExpiredAll_frame
    { s with vl := { vouchers := s.vl.vouchers.filter fun v => !v.isExpired s.tb.monoMin } }
    (s.vl.vouchers.filter (Voucher.isExpired s.tb.monoMin))
  rw [h]; exact ⟨_, _, rfl⟩

theorem State.settle_frame :
    ∃ bt st rq, s.settle = { s with bt := bt, st := st, rq := rq } := by
  obtain ⟨bt, st, rq, h⟩ := State.fillPlaces_frame
    { s with rq := { s.rq with receipts := s.rq.receipts.filter fun r => !r.isSettled } }
    (s.rq.receipts.filter Receipt.isSettled).length
  rw [State.settle, h]; exact ⟨_, _, _, rfl⟩

theorem State.takeReceipt_frame (p : Port) (n : Nat) :
    ∃ bt st rq, s.takeReceipt p n = { s with bt := bt, st := st, rq := rq } := by
  obtain ⟨bt, st, rq, h⟩ := State.settle_frame { s with rq := { s.rq with
    receipts := s.rq.receipts.map fun (r : Receipt) => if r.number = n then r.takenBy p else r } }
  rw [State.takeReceipt, h]; exact ⟨_, _, _, rfl⟩

theorem State.releaseTillHold_frame :
    ∃ bt st rq, s.releaseTillHold = { s with bt := bt, st := st, rq := rq } := by
  unfold State.releaseTillHold; split
  · obtain ⟨bt, st, rq, h⟩ := State.settle_frame { s with rq := { s.rq with
      tillReleased := true
      receipts := s.rq.receipts.map Receipt.releaseTill } }
    rw [h]; exact ⟨_, _, _, rfl⟩
  · exact ⟨_, _, _, rfl⟩

theorem State.lapsePresent_frame (p : Port) :
    ∃ sp, s.lapsePresent p = { s with sp := sp } := by
  unfold State.lapsePresent; split <;> exact ⟨_, rfl⟩

theorem State.configure_frame :
    ∃ site tb dg al gt so sp, s.configure = { s with site := site, tb := tb, dg := dg, al := al, gt := gt, so := so, sp := sp } := by
  obtain ⟨dg, sp, h⟩ := s.configureCut_frame
  unfold State.configure; rw [h]; exact ⟨_, _, _, _, _, _, _, rfl⟩

theorem State.commit_frame :
    ∃ site tb ls dg bt al gt sp, s.commit = { s with site := site, tb := tb, ls := ls, dg := dg, bt := bt, al := al, gt := gt, sp := sp } := by
  obtain ⟨sp, h1⟩ := s.commitBlocks.lapsePresent_frame .network
  obtain ⟨sp2, h2⟩ := (s.commitBlocks.lapsePresent .network).lapsePresent_frame .till
  obtain ⟨sp3, h3⟩ := ((s.commitBlocks.lapsePresent .network).lapsePresent .till).lapsePresent_frame .energy
  rw [State.commit, h3, h2, h1]; exact ⟨_, _, _, _, _, _, _, _, rfl⟩

end Sys2Proof.Machine
end

