-- ==== Sys2Proof/Laws/Ops.lean ====
section
/-! SUPPORT. What the shared operations do, one lemma for each case: the taking of a request, the events under a held
reset, and the small functions of the site state. -/

namespace Sys2Proof.Machine

variable (s : State)

/-! ### Taking a request (R155, R156) -/

/-- While a reset is held a request has no effect. -/
theorem takeRequest_held (ports : List Port) (p : Port) (tag code : Byte) (h : Handler) (hh : s.held ≠ none) :
    takeRequest ports p tag code h s = s := by
  have : s.held.isSome = true := by cases h' : s.held <;> simp_all
  simp [takeRequest, this]

/-- While a response is being sent a request counts as OVERRUN. -/
theorem takeRequest_busy (ports : List Port) (p : Port) (tag code : Byte) (h : Handler) (hh : s.held = none)
    (ht : (s.port p).tx ≠ none) : takeRequest ports p tag code h s = s.countOverrun p := by
  have : (s.port p).tx.isSome = true := by cases h' : (s.port p).tx <;> simp_all
  simp [takeRequest, hh, this]

/-- A request on a port where it is not permitted reaches no block. -/
theorem takeRequest_refused (ports : List Port) (p : Port) (tag code : Byte) (h : Handler) (hh : s.held = none)
    (ht : (s.port p).tx = none) (hp : p ∉ ports) :
    takeRequest ports p tag code h s = (s.arrive p).respond p tag code .notPermitted .empty := by
  simp [takeRequest, hh, ht, permitted, hp]

/-- A request that is permitted is handed to its block, whose answer is sent. -/
theorem takeRequest_taken (ports : List Port) (p : Port) (tag code : Byte) (h : Handler) (hh : s.held = none)
    (ht : (s.port p).tx = none) (hp : p ∈ ports) :
    takeRequest ports p tag code h s =
      (h (s.arrive p)).1.respond p tag code (h (s.arrive p)).2.1 (h (s.arrive p)).2.2 := by
  simp [takeRequest, hh, ht, permitted, hp]

/-! ### Events (R173) -/

/-- While a reset is held an event has no effect. -/
theorem unlessHeld_held (f : State → State) (hh : s.held ≠ none) : unlessHeld f s = s := by
  have : s.held.isSome = true := by cases h' : s.held <;> simp_all
  simp [unlessHeld, this]

/-- With no reset held an event takes its effect. -/
theorem unlessHeld_free (f : State → State) (hh : s.held = none) : unlessHeld f s = f s := by
  simp [unlessHeld, hh]

/-! ### Lowering by a report (R99) -/

/-- The lowering of a report, written out (R99, R94, R100). -/
theorem State.lowerByReport_eq_lowered (k bayMax : Nat) : s.lowerByReport k bayMax = s.lowered k bayMax := by
  unfold State.lowerByReport State.lowered
  split
  · have h (x : GrantRec) (v eg : Nat) :
        (if (if x.bay = k then x.move s.tb.ms v x.a else x).bay == k then
          { (if x.bay = k then x.move s.tb.ms v x.a else x) with e := eg } else
          (if x.bay = k then x.move s.tb.ms v x.a else x)) =
        if x.bay = k then
          { x with g := v, e := eg,
                   mismatch := if v = x.a then none else if x.g = x.a then some s.tb.ms else x.mismatch,
                   overdue := if v = x.a then false else x.overdue } else x := by
      have hb : (x.move s.tb.ms v x.a).bay = x.bay := by unfold GrantRec.move; split <;> [rfl; split <;> rfl]
      by_cases hk : x.bay = k
      · simp only [hk, if_true, hb, beq_self_eq_true]
        unfold GrantRec.move
        split
        · rfl
        · split <;> rfl
      · simp [hk]
    simp only [State.takeEpoch, State.updGrant, nextEpoch, List.map_map, Function.comp_def, loweredGrant, h]
    split <;> simp_all
  · rfl

/-! ### The site state and the ports -/

/-- The site is in RUN exactly when its state is RUN. -/
theorem State.isRun_iff : s.isRun = true ↔ s.site = .run := by
  simp [State.isRun]

/-- A port is PRESENT exactly when its presence state is. -/
theorem State.isPresent_iff (p : Port) : s.isPresent p = true ↔ (s.port p).presence = .present := by
  simp [State.isPresent]

@[simp] theorem State.updPort_isRun (p : Port) (f : PortState → PortState) : (s.updPort p f).isRun = s.isRun := rfl
@[simp] theorem State.raise_isRun (p : Port) (n : Notice) (a b : Detail) : (s.raise p n a b).isRun = s.isRun := rfl
@[simp] theorem State.emptyReceiver_isRun (p : Port) : (s.emptyReceiver p).isRun = s.isRun := rfl

/-- An empty receiver changes no port's presence. -/
@[simp] theorem State.emptyReceiver_isPresent (p q : Port) : (s.emptyReceiver p).isPresent q = s.isPresent q := by
  cases p <;> cases q <;> rfl

/-- A response changes no port's presence. -/
@[simp] theorem State.respond_isPresent (p q : Port) (tag code : Byte) (x : Status) (r : Reply) :
    (s.respond p tag code x r).isPresent q = s.isPresent q := by
  cases p <;> cases q <;> rfl

/-- A port whose frame has arrived is PRESENT. -/
theorem State.arrive_isPresent (p : Port) : (s.arrive p).isPresent p = true := by
  unfold State.arrive State.frameValid
  dsimp only
  split
  · simp [State.isPresent]
  · cases p
    · unfold State.onReturn
      dsimp only
      split
      · rfl
      · rfl
    · rfl
    · rfl

end Sys2Proof.Machine
end

