-- ==== Sys2Proof/Laws/PerInstr.lean ====
section
/-! SUPPORT. Facts about every command, one lemma for each constructor. -/

namespace Sys2Proof.Laws.Catalogue

open Sys2Proof.Machine

/-- A request has a command code of the catalogue whose top bit is clear, at least one port may send it, and it names its
port and tag (section 11.6, R156, R167); an event has none of them. -/
def Statement (i : Instr) : Prop :=
  match catalogueCode i with
  | some code =>
    codeUnknown code = false ∧ code.getLsbD 7 = false ∧ cataloguePorts code ≠ [] ∧ (requestHead i).isSome = true
  | none => requestHead i = none

theorem ping (p : Port) (tag : Byte) (payload : List Byte) : Statement (.ping p tag payload) :=
  ⟨by decide, by decide, by decide, rfl⟩

theorem readNotice (p : Port) (tag : Byte) (payload : List Byte) : Statement (.readNotice p tag payload) :=
  ⟨by decide, by decide, by decide, rfl⟩

theorem setNoticeMask (p : Port) (tag : Byte) (payload : List Byte) : Statement (.setNoticeMask p tag payload) :=
  ⟨by decide, by decide, by decide, rfl⟩

theorem writeConfig (p : Port) (tag : Byte) (body : Body (List ConfigPair)) : Statement (.writeConfig p tag body) :=
  ⟨by decide, by decide, by decide, rfl⟩

theorem readConfig (p : Port) (tag : Byte) (payload : List Byte) : Statement (.readConfig p tag payload) :=
  ⟨by decide, by decide, by decide, rfl⟩

theorem commitSite (p : Port) (tag : Byte) (payload : List Byte) : Statement (.commitSite p tag payload) :=
  ⟨by decide, by decide, by decide, rfl⟩

theorem enterConfigure (p : Port) (tag : Byte) (payload : List Byte) : Statement (.enterConfigure p tag payload) :=
  ⟨by decide, by decide, by decide, rfl⟩

theorem setLimits (p : Port) (tag : Byte) (body : Body LimitFields) : Statement (.setLimits p tag body) :=
  ⟨by decide, by decide, by decide, rfl⟩

theorem setTariff (p : Port) (tag : Byte) (body : Body (List BandFields)) : Statement (.setTariff p tag body) :=
  ⟨by decide, by decide, by decide, rfl⟩

theorem setClock (p : Port) (tag : Byte) (payload : List Byte) : Statement (.setClock p tag payload) :=
  ⟨by decide, by decide, by decide, rfl⟩

theorem readSite (p : Port) (tag : Byte) (payload : List Byte) : Statement (.readSite p tag payload) :=
  ⟨by decide, by decide, by decide, rfl⟩

theorem readWindows (p : Port) (tag : Byte) (payload : List Byte) : Statement (.readWindows p tag payload) :=
  ⟨by decide, by decide, by decide, rfl⟩

theorem readChannels (p : Port) (tag : Byte) (payload : List Byte) : Statement (.readChannels p tag payload) :=
  ⟨by decide, by decide, by decide, rfl⟩

theorem readSession (p : Port) (tag : Byte) (body : Body SessionSelector) : Statement (.readSession p tag body) :=
  ⟨by decide, by decide, by decide, rfl⟩

theorem bayReports (p : Port) (tag : Byte) (payload : List Byte) : Statement (.bayReports p tag payload) :=
  ⟨by decide, by decide, by decide, rfl⟩

theorem readGrants (p : Port) (tag : Byte) (payload : List Byte) : Statement (.readGrants p tag payload) :=
  ⟨by decide, by decide, by decide, rfl⟩

theorem ackGrants (p : Port) (tag : Byte) (payload : List Byte) : Statement (.ackGrants p tag payload) :=
  ⟨by decide, by decide, by decide, rfl⟩

theorem endSession (p : Port) (tag : Byte) (payload : List Byte) : Statement (.endSession p tag payload) :=
  ⟨by decide, by decide, by decide, rfl⟩

theorem setBayService (p : Port) (tag : Byte) (payload : List Byte) : Statement (.setBayService p tag payload) :=
  ⟨by decide, by decide, by decide, rfl⟩

theorem claimVoucher (p : Port) (tag : Byte) (body : Body ClaimFields) : Statement (.claimVoucher p tag body) :=
  ⟨by decide, by decide, by decide, rfl⟩

theorem readBay (p : Port) (tag : Byte) (payload : List Byte) : Statement (.readBay p tag payload) :=
  ⟨by decide, by decide, by decide, rfl⟩

theorem postVoucher (p : Port) (tag : Byte) (body : Body PostFields) : Statement (.postVoucher p tag body) :=
  ⟨by decide, by decide, by decide, rfl⟩

theorem withdrawVoucher (p : Port) (tag : Byte) (body : Body Word) : Statement (.withdrawVoucher p tag body) :=
  ⟨by decide, by decide, by decide, rfl⟩

theorem readVoucher (p : Port) (tag : Byte) (body : Body Word) : Statement (.readVoucher p tag body) :=
  ⟨by decide, by decide, by decide, rfl⟩

theorem peekReceipt (p : Port) (tag : Byte) (payload : List Byte) : Statement (.peekReceipt p tag payload) :=
  ⟨by decide, by decide, by decide, rfl⟩

theorem takeReceipt (p : Port) (tag : Byte) (body : Body Word) : Statement (.takeReceipt p tag body) :=
  ⟨by decide, by decide, by decide, rfl⟩

theorem frameDiscard (p : Port) : Statement (.frameDiscard p) :=
  rfl

theorem overrun (p : Port) : Statement (.overrun p) :=
  rfl

theorem unknownCommand (p : Port) (tag : Byte) (code : Byte) : Statement (.unknownCommand p tag code) :=
  rfl

theorem responseEnd (p : Port) : Statement (.responseEnd p) :=
  rfl

theorem monotonicMinuteEvent : Statement .monotonicMinuteEvent :=
  rfl

theorem clockMinuteEvent : Statement .clockMinuteEvent :=
  rfl

theorem roundTick : Statement .roundTick :=
  rfl

theorem staleMark (bay : Nat) : Statement (.staleMark bay) :=
  rfl

theorem periodEnd : Statement .periodEnd :=
  rfl

theorem presenceExpiry (p : Port) : Statement (.presenceExpiry p) :=
  rfl

theorem silenceExpiry (c : Channel) : Statement (.silenceExpiry c) :=
  rfl

theorem overdueExpiry (bay : Nat) : Statement (.overdueExpiry bay) :=
  rfl

theorem windowEnd : Statement .windowEnd :=
  rfl

theorem voucherExpiry : Statement .voucherExpiry :=
  rfl

theorem abandonment : Statement .abandonment :=
  rfl

theorem tillHoldRelease : Statement .tillHoldRelease :=
  rfl

theorem pulse (c : Channel) : Statement (.pulse c) :=
  rfl

theorem inactiveLevelChange (c : Channel) (level : Bool) : Statement (.inactiveLevelChange c level) :=
  rfl

theorem boundAssertion (b : BoundLine) : Statement (.boundAssertion b) :=
  rfl

theorem boundDeassertion (b : BoundLine) : Statement (.boundDeassertion b) :=
  rfl

theorem powerUpReset : Statement .powerUpReset :=
  rfl

theorem pinReset : Statement .pinReset :=
  rfl

theorem resetRelease (size1 size0 speed : Bool) : Statement (.resetRelease size1 size0 speed) :=
  rfl

theorem vbakFailure : Statement .vbakFailure :=
  rfl

theorem filterSample (line : SampledLine) (level : Bool) : Statement (.filterSample line level) :=
  rfl

theorem characterReceived (p : Port) (byte : Byte) (stopLow : Bool) : Statement (.characterReceived p byte stopLow) :=
  rfl

theorem receiverGap (p : Port) : Statement (.receiverGap p) :=
  rfl

end Sys2Proof.Laws.Catalogue
end

