-- ==== Sys2Proof/Tests/Slice0.lean ====
section
/-! SUPPORT. Tests: the well-formedness smoke tests, the spec's worked examples, one or two small checks for a command, and
for every obligation with hypotheses a state and operands that meet them. -/

namespace Sys2Proof.Tests

open Sys2Proof.Machine

/-! ### Small states -/

/-- A window of the Demand Guard's worked sequence (section 3.8). -/
def clockWindow : Window := ⟨.clock, 645, 660, 900, 2000, 50000, 40000⟩

/-- A window that opened at minute 0 on the monotonic count. -/
def monoWindow : Window := ⟨.monotonic, 0, 15, 900, 2000, 50000, 0⟩

/-- The site in RUN right after reset, with port N LAPSED. -/
def inRun : State := { State.reset with
  site := .run
  tb := { State.reset.tb with nextTick := some 2000 }
  dg := ⟨some monoWindow, []⟩ }

/-- A port made PRESENT at millisecond 0. -/
def makePresent (p : Port) (s : State) : State :=
  s.updPort p fun x => { x with presence := .present, timer := some 0 }

/-- The site in RUN with port N PRESENT. -/
def served : State := makePresent .network inRun

/-- An OPEN session of bay 1. -/
def openSession : Session where
  number := 1
  bay := 1
  state := .opened
  start := ⟨0, 0⟩
  stop := none
  cause := none
  base := 1000
  metered := 0
  voucher := none
  creditGranted := 0
  creditLeft := 0
  free := 0
  bands := []
  flags := SessionFlags.clear

/-- Bay 1 in a state, bound to a session. -/
def setBay1 (st : BayState) (n : Option Nat) (s : State) : State :=
  s.updBay 1 fun b => { b with state := st, session := n, connectorMax := 220, request := 110, lastReading := 1000 }

/-- The site in RUN with port N PRESENT and bay 1 ACTIVE with session 1. -/
def charging : State :=
  { setBay1 .active (some 1) served with st := ⟨[openSession], [], 2⟩ }

/-- A voucher, CLAIMED for session 1 or UNCLAIMED. -/
def voucherOf (st : VoucherState) : Voucher :=
  { number := 7731, till := 4, basket := 8745, credit := 3480, posted := 0, expiry := 180, state := st,
    session := if st = .unclaimed then none else some 1, bay := if st = .unclaimed then none else some 1 }

/-- A receipt owed to port N, and to port T on demand. -/
def receiptNo (n : Nat) (till : Bool) : Receipt :=
  { inRun.receiptOf openSession with number := n, owedTill := till }

/-- The payload of a BAY REPORTS of one entry for a bay: plug, request 110, measured 0, a connector max, a reading. -/
def report1 (k plug connector : Nat) (reading : Nat) : List Byte :=
  [1, BitVec.ofNat 8 k, BitVec.ofNat 8 plug] ++ bytes16 110 ++ bytes16 0 ++ bytes16 connector ++ bytes32 reading

/-- The entry of that payload. -/
def entry1 (k : Nat) (plug : Bool) (connector reading : Nat) : ReportEntry :=
  ⟨k, plug, 110, 0, connector, reading⟩

/-- The state a command leads to, if it answers one. -/
def after (i : Instr) (s : State) : State :=
  match exec i s with
  | .next t => t
  | .fault _ => s
  | .refused _ => s

/-- The status of the response a port sends. -/
def statusOn (p : Port) (s : State) : Option Status :=
  (s.port p).tx.map (·.status)

/-! ### Well-formedness: one ill-formed term for each check -/

set_option maxRecDepth 20000 in
theorem test_payload_too_long : Instr.wf (.ping .network 0 (List.replicate 241 0)) = false := by decide
set_option maxRecDepth 20000 in
theorem test_payload_fits : Instr.wf (.ping .network 0 (List.replicate 240 0)) = true := by decide
theorem test_bay_zero : Instr.wf (.staleMark 0) = false := by decide
theorem test_bay_above_32 : Instr.wf (.overdueExpiry 33) = false := by decide
set_option maxRecDepth 20000 in
theorem test_list_too_long :
    Instr.wf (.setTariff .energy 0 (.fields (List.replicate 241 ⟨0, 0, false, false⟩))) = false := by decide
theorem test_unknown_code_catalogued : Instr.wf (.unknownCommand .till 0 0x20) = false := by decide
theorem test_unknown_code : Instr.wf (.unknownCommand .till 0 0x04) = true := by decide

/-! ### Frames: the PING frame of R154, and the codes of section 11.6 written out -/

theorem test_ping_frame : requestFrame 0x5A 0x01 [] = [0x5A, 0x01, 0x00, 0xA5] := by decide
theorem test_ping_frame_read : frameCommand .till false [0x5A, 0x01, 0x00, 0xA5] = .ping .till 0x5A [] := by decide
theorem test_ping_frame_bad_check : frameCommand .till false [0x5A, 0x01, 0x00, 0xA4] = .frameDiscard .till := by decide
theorem test_read_bay_frame : frameCommand .network false [0x01, 0x26, 0x01, 0x05, 0xD3] = .readBay .network 1 [5] := by
  decide
theorem test_no_bits : decodeTableWord 8 1 = none := rfl
theorem test_fetch_word_unchanged : State.reset.withFetchWord 8 1 = State.reset := rfl
theorem test_response_frame :
    Response.frame ⟨0x5A, 0x01, .badRequest, .empty⟩ = [0x5A, 0x81, 0x02, 0x00, 0x23] := by decide

/-! ### Worked examples of the spec -/

/-- Section 3.8, its table of allowances at 10:55:00 and 10:59:40, with an import cap of 2500. -/
def guarded (minute phase : Nat) : State := { inRun with
  tb := { inRun.tb with minuteOfDay := minute, clockPhase := phase, clockSet := true }
  ls := { inRun.ls with active := { inRun.ls.active with importCap := 2500 } } }

theorem test_allowance_1055 : (guarded 655 0).windowAllowance clockWindow = 1200 := by decide
theorem test_allowance_1059_40 : (guarded 659 40000).windowAllowance { clockWindow with e := 49500 } = 900 := by decide
theorem test_allowance_last_second :
    (guarded 659 59400).windowAllowance { clockWindow with e := 49980 } = 720 := by decide
theorem test_allowance_spent : (guarded 659 59800).windowAllowance { clockWindow with e := 50010 } = 0 := by decide
theorem test_limit_energy : limitEnergy 2000 900 = 50000 := by decide

/-- Section 4.9: Δt of 2 410 000 ms at a connector max of 110. -/
theorem test_increment_limit : incrementLimit 110 2410000 = 9214 := by decide

/-- Section 5.12: the Saturday round's candidates in admission order, its budget and its pointer. -/
def saturday : List Candidate :=
  [⟨5, 220, false⟩, ⟨3, 110, false⟩, ⟨17, 37, false⟩, ⟨12, 220, false⟩, ⟨8, 74, true⟩, ⟨11, 110, true⟩]

theorem test_saturday_targets : [3, 5, 8, 11, 12, 17].map (targetOf (shareBudget 14 24 586 9 saturday).targets) =
    [some 110, some 127, some 74, some 110, some 128, some 37] := by decide
theorem test_saturday_pointer : (shareBudget 14 24 586 9 saturday).pointer = 13 := by decide

/-- Section 6.8: bay 12's raise has a room of 95, below its acknowledged 100. -/
theorem test_no_room_no_raise : raiseTo 14 95 100 100 128 = none := by decide
theorem test_whole_raise : raiseTo 14 128 100 100 128 = some 128 := by decide

/-- Section 7.5. -/
theorem test_duty_full_discharge : bsetDuty 250 300 0 300 = 0 := by decide
theorem test_duty_charge : bsetDuty 250 300 90 0 = 680 ∧ bsetDuty 250 300 3 0 = 506 ∧ bsetDuty 250 300 1 0 = 502 := by
  decide
theorem test_duty_canopy :
    climDuty 300 4000 2081 = 520 ∧ climDuty 300 4000 2053 = 513 ∧ climDuty 300 4000 1620 = 405 ∧
      climDuty 0 4000 1224 = 306 := by
  decide

/-- Section 9.8. -/
theorem test_voucher_credit :
    voucherCredit 5000 40 8745 = 3480 ∧ voucherCredit 5000 40 13290 = 5000 ∧ voucherCredit 5000 40 1600 = 640 := by
  decide

/-- R144's two entries of 1 Wh at 5000, and its single greatest entry. -/
theorem test_price_rounds_half_up : (priceEntry ⟨1, 5000, false, 1⟩).cents = 1 := by decide
theorem test_price_greatest : (priceEntry ⟨1, 65535, false, 4294967295⟩).cents = 28147068168 := by decide

/-- R13: before the first start the last band runs on. -/
theorem test_band_wraps :
    bandIndex [⟨360, 1, false, false⟩, ⟨720, 2, false, false⟩] 359 = 2 ∧
      bandIndex [⟨360, 1, false, false⟩, ⟨720, 2, false, false⟩] 360 = 1 := by
  decide

/-- R33: at minute 659 the next boundary of 15-minute windows is 660; at 1435 it is 1440, written 0. -/
theorem test_boundary : nextBoundary 15 .clock 659 = 660 ∧ nextBoundary 15 .clock 1435 = 0 := by decide

/-! ### Commands: one small step each -/

theorem test_ping_returns_port : (after (.ping .till 7 []) State.reset).isPresent .till = true := by decide
theorem test_ping_clear_takes_flag :
    ((after (.ping .till 7 [1]) State.reset).port .till).lapseFlag = false := by decide
theorem test_read_notice_clears_restarted :
    ((after (.readNotice .till 7 []) State.reset).port .till).events.restarted = none := by decide
theorem test_mask_ignores_unlisted :
    ((after (.setNoticeMask .till 7 [0xFF, 0xFD]) State.reset).port .till).mask = 5 := by decide
theorem test_write_config_clamps :
    (after (.writeConfig .energy 7 (.fields [⟨some .bayMin, 5⟩])) State.reset).cfg.bayMin = 10 := by decide
theorem test_write_config_adjusted :
    statusOn .energy (after (.writeConfig .energy 7 (.fields [⟨some .bayMin, 5⟩])) State.reset) = some .adjusted := by
  decide
theorem test_read_config_not_on_till :
    statusOn .till (after (.readConfig .till 7 []) State.reset) = some .notPermitted := by decide
theorem test_commit_site_runs : (after (.commitSite .energy 7 []) State.reset).site = .run := by decide
theorem test_commit_site_first_tick :
    (after (.commitSite .energy 7 []) State.reset).tb.nextTick = some 2000 := by decide
theorem test_enter_configure : (after (.enterConfigure .energy 7 []) inRun).site = .configure := by decide
theorem test_enter_configure_with_session :
    statusOn .energy (after (.enterConfigure .energy 7 []) charging) = some .badState := by decide
theorem test_set_limits_margin :
    (after (.setLimits .energy 7 (.fields ⟨none, none, none, some 6000, none, none, none⟩))
      State.reset).ls.pend.storeMargin = some 5000 := by decide
theorem test_set_tariff_refuses_equal_starts :
    statusOn .energy (after (.setTariff .energy 7 (.fields [⟨5, 1, false, false⟩, ⟨5, 2, false, false⟩]))
      State.reset) = some .badRequest := by decide
theorem test_set_clock_window :
    ((after (.setClock .energy 7 [2, 0x8F, 30]) inRun).dg.window.map fun w => (w.startMinute, w.endMinute, w.length)) =
      some (655, 660, 270) := by decide
theorem test_read_site_clears_clip :
    (after (.readSite .energy 7 []) { State.reset with
      mi := { State.reset.mi with socClipped := true } }).mi.socClipped = false := by decide
theorem test_read_windows_ok : statusOn .energy (after (.readWindows .energy 7 []) State.reset) = some .ok := by decide
theorem test_read_channels_refuses_payload :
    statusOn .energy (after (.readChannels .energy 7 [0]) State.reset) = some .badRequest := by decide
theorem test_read_session_empty :
    statusOn .network (after (.readSession .network 7 (.fields (.number 1))) State.reset) = some .empty := by decide
theorem test_bay_reports_opens :
    ((after (.bayReports .network 7 (report1 1 1 220 500)) served).bay 1).map (fun b => (b.state, b.session)) =
      some (.active, some 1) := by decide
theorem test_bay_reports_meters :
    ((after (.bayReports .network 7 (report1 1 1 220 1005)) charging).session 1).map (·.metered) = some 5 := by decide
theorem test_read_grants_ok : statusOn .network (after (.readGrants .network 7 []) served) = some .ok := by decide
theorem test_ack_grants_out_of_range :
    statusOn .network (after (.ackGrants .network 7 [0, 0, 0, 1]) served) = some .outOfRange := by decide
theorem test_end_session_done :
    ((after (.endSession .network 7 [1]) charging).bay 1).map (·.state) = some .done := by decide
theorem test_end_session_receipt : (after (.endSession .network 7 [1]) charging).rq.receipts.length = 1 := by decide
theorem test_service_out :
    ((after (.setBayService .network 7 [1, 0]) charging).bay 1).map (fun b => (b.state, b.session)) =
      some (.outOfService, none) := by decide
theorem test_claim_gives_credit :
    ((after (.claimVoucher .network 7 (.fields ⟨1, 7731⟩))
      { charging with vl := ⟨[voucherOf .unclaimed]⟩ }).session 1).map (·.creditLeft) = some 3480 := by decide
theorem test_read_bay_unknown :
    statusOn .network (after (.readBay .network 7 [9]) served) = some .unknownBay := by decide
theorem test_post_voucher_expiry :
    (after (.postVoucher .till 7 (.fields ⟨7731, 4, 8745⟩)) State.reset).vl.vouchers.map
      (fun v => (v.credit, v.expiry)) = [(3480, 180)] := by decide
theorem test_post_voucher_below_minimum :
    statusOn .till (after (.postVoucher .till 7 (.fields ⟨7760, 7, 1499⟩)) State.reset) = some .belowMinimum := by
  decide
theorem test_withdraw_removes :
    (after (.withdrawVoucher .till 7 (.fields 7731))
      { State.reset with vl := ⟨[voucherOf .unclaimed]⟩ }).vl.vouchers = [] := by decide
theorem test_read_voucher_unknown :
    statusOn .till (after (.readVoucher .till 7 (.fields 7731)) State.reset) = some .unknownVoucher := by decide
theorem test_peek_empty : statusOn .network (after (.peekReceipt .network 7 []) served) = some .empty := by decide
theorem test_take_receipt_settles :
    (after (.takeReceipt .network 7 (.fields 3))
      { served with rq := { served.rq with receipts := [receiptNo 3 false], nextReceipt := 4 } }).rq.receipts = [] := by
  decide
theorem test_frame_discard_counts :
    ((after (.frameDiscard .till) (State.reset.updPort .till fun x =>
      { x with rx := ⟨false, [0x5A, 0x01, 0x00, 0xA4], 4, false⟩ })).port .till).badFrame = 1 := by decide
theorem test_overrun_counts :
    ((after (.overrun .till) (after (.ping .till 7 []) State.reset)).port .till).overrun = 1 := by decide
theorem test_unknown_command_no_presence :
    (after (.unknownCommand .till 7 0x04) State.reset).isPresent .till = false := by decide
theorem test_response_end : ((after (.responseEnd .till) (after (.ping .till 7 []) State.reset)).port .till).tx = none := by
  decide
theorem test_monotonic_minute :
    (after .monotonicMinuteEvent { State.reset with
      tb := { State.reset.tb with monoPhase := 60000 } }).tb.monoMin = 1 := by decide
theorem test_clock_wraps :
    (after .clockMinuteEvent { State.reset with
      tb := { State.reset.tb with clockPhase := 60000, minuteOfDay := 1439 } }).tb.minuteOfDay = 0 := by decide
theorem test_round_tick_number :
    (after .roundTick { served with tb := { served.tb with ms := 2000 } }).al.roundNumber = 1 := by decide
theorem test_round_tick_next :
    (after .roundTick { served with tb := { served.tb with ms := 2000 } }).tb.nextTick = some 4000 := by decide
theorem test_period_end : (after .periodEnd State.reset).tb.ms = 1 := by decide
theorem test_stale_mark :
    ((after (.staleMark 1) { charging with
      tb := { charging.tb with ms := 15001, nextTick := some 15000 } }).bay 1).map (·.stale) = some true := by decide
theorem test_presence_expiry_fallback :
    ((after (.presenceExpiry .network) { charging with
      tb := { charging.tb with ms := 10001 } }).bay 1).map (·.state) = some .fallback := by decide
theorem test_presence_expiry_not_yet :
    (after (.presenceExpiry .network) { charging with
      tb := { charging.tb with ms := 10000 } }).isPresent .network = true := by decide
theorem test_window_end_history :
    (after .windowEnd { inRun with tb := { inRun.tb with monoMin := 15 } }).dg.history.length = 1 := by decide
theorem test_voucher_expiry :
    (after .voucherExpiry { State.reset with
      vl := ⟨[voucherOf .unclaimed]⟩, tb := { State.reset.tb with monoMin := 181 } }).vl.vouchers = [] := by decide
theorem test_abandonment :
    ((after .abandonment { charging with
      bt := (setBay1 .fallback (some 1) charging).bt |> fun t =>
        { t with bays := t.bays.map fun b => if b.number = 1 then { b with fallbackStart := some 0 } else b }
      tb := { charging.tb with monoMin := 121 } }).bay 1).map (·.state) = some .done := by decide
theorem test_till_hold_release :
    (after .tillHoldRelease { State.reset with
      tb := { State.reset.tb with monoMin := 241 } }).rq.tillReleased = true := by decide

/-- A channel that is enabled on the rising edge with filter length 3, accepted low and twice seen high. -/
def nearPulse (c : Channel) : State := { State.reset with
  cfg := { State.reset.cfg with chan := State.reset.cfg.chan.set c ⟨true, false, 3, 2⟩, batteryCapacity := 1 }
  mi := { State.reset.mi with
    chan := State.reset.mi.chan.set c { ChannelState.idle 0 0 with accepted := some false, filt := some (true, 2) } } }

theorem test_pulse_counts : ((after (.pulse .canopy) (nearPulse .canopy)).chan .canopy).pulses = 1 := by decide
theorem test_pulse_saturates_soc :
    ((after (.filterSample (.channel .battIn) true) (nearPulse .battIn)).mi.soc,
      (after (.filterSample (.channel .battIn) true) (nearPulse .battIn)).mi.socClipped) = (1, true) := by decide
theorem test_inactive_level_change :
    ((after (.inactiveLevelChange .canopy false) ((nearPulse .canopy).updChan .canopy fun x =>
      { x with accepted := some true, filt := some (false, 2) })).chan .canopy).accepted = some false := by decide
theorem test_silence_expiry :
    ((after (.silenceExpiry .canopy) { nearPulse .canopy with
      tb := { State.reset.tb with ms := 60001 } }).chan .canopy).silent = true := by decide
theorem test_overdue_expiry :
    ((after (.overdueExpiry 1) ({ charging with
      tb := { charging.tb with ms := 10001 } }.updGrant 1 fun x => { x with a := 42, mismatch := some 0 })).grant
        1).overdue = true := by decide

/-- A bound line seen high seven times. -/
def nearBound (b : BoundLine) (level : Bool) : State :=
  { State.reset with cfg := { State.reset.cfg with batteryCapacity := 400000 } }.setBound b
    ⟨some (!level), some (level, 7)⟩

theorem test_bound_assertion : (after (.boundAssertion .bfull) (nearBound .bfull true)).mi.soc = 400000 := by decide
theorem test_bound_deassertion :
    (after (.boundDeassertion .bempty) (nearBound .bempty false)).mi.bempty.accepted = some false := by decide
theorem test_power_up_holds : (after .powerUpReset inRun).held = some .powerUp := by decide
theorem test_pin_reset_releases_retained :
    (after (.resetRelease false false false) (after .pinReset inRun)).site = .run := by decide
theorem test_retention_discarded :
    (after (.resetRelease true false false) (after .pinReset inRun)).site = .configure := by decide
theorem test_vbak_failure : (after .vbakFailure inRun).rd.marker = false := by decide
theorem test_character_waits_for_gap :
    ((after (.characterReceived .till 1 false) State.reset).port .till).rx.count = 0 := by decide
theorem test_gap_readies :
    ((after (.characterReceived .till 1 false) (after (.receiverGap .till) State.reset)).port .till).rx.count = 1 := by
  decide

/-- R106: at a duty of 500 the wire is high up to microsecond 499; at 1000 it is high throughout. -/
theorem test_wire_levels :
    State.reset.wireHigh ⟨500, none⟩ 499 = some true ∧ State.reset.wireHigh ⟨500, none⟩ 500 = some false ∧
      State.reset.wireHigh ⟨1000, none⟩ 999 = some true ∧ State.reset.wireHigh ⟨0, none⟩ 0 = some false := by decide

/-- R20: a silence limit lowered in this millisecond expires a channel from the next one. -/
def shortened : State :=
  after (.responseEnd .energy) (after (.writeConfig .energy 7 (.fields [⟨some .silenceLimit, 5⟩]))
    { nearPulse .canopy with tb := { State.reset.tb with ms := 5001 } })

theorem test_limit_not_yet : ((after (.silenceExpiry .canopy) shortened).chan .canopy).silent = false := by decide
theorem test_limit_next_ms :
    ((after (.silenceExpiry .canopy) (after .periodEnd shortened)).chan .canopy).silent = true := by decide

/-- R150: a till hold lowered after a minute event releases at the next one. -/
def shorterHold : State :=
  after (.writeConfig .energy 7 (.fields [⟨some .tillHold, 10⟩]))
    { State.reset with tb := { State.reset.tb with monoMin := 20, monoPhase := 60000 } }

theorem test_till_hold_not_yet : (after .tillHoldRelease shorterHold).rq.tillReleased = false := by decide
theorem test_till_hold_next_minute :
    (after .tillHoldRelease (after .monotonicMinuteEvent shorterHold)).rq.tillReleased = true := by decide

theorem test_read_config_order :
    State.reset.cfg.listed.length = 50 ∧ State.reset.cfg.listed.take 2 = [(.bayCount, 8), (.bayMin, 14)] ∧
      State.reset.cfg.listed.drop 49 = [(.tillHold, 240)] := by decide

/-! ### Witnesses: for each obligation with hypotheses, values that meet them, clause by clause -/

/-- A state that sends a response on a port. -/
def sending (p : Port) (s : State) : State :=
  s.updPort p fun x => { x with tx := some ⟨0, 1, .ok, .empty⟩ }

theorem witness_StepTakesFront : State.reset.pending = [] := rfl

theorem witness_ResetsHoldThePart :
    { State.reset with held := some .pin }.held ≠ none ∧ isReset .roundTick = false := by decide

theorem witness_RequestsTurnedAwayOrAnswered :
    (requestHead (.readConfig .till 7 []) = some (.till, 7) ∧ catalogueCode (.readConfig .till 7 []) = some 0x11 ∧
      (sending .till State.reset).held = none ∧ ((sending .till State.reset).port .till).tx ≠ none) ∧
    (State.reset.held = none ∧ (State.reset.port .till).tx = none ∧ Port.till ∉ cataloguePorts 0x11) ∧
    State.reset.Ready .till :=
  ⟨by decide, by decide, rfl, rfl⟩

theorem witness_ArrivalRestoresPresence :
    (¬ (Port.network = .network ∧ State.reset.isPresent .network = false ∧ State.reset.site = .run)) ∧
    (¬ (Port.network = .network ∧ served.isPresent .network = false ∧ served.site = .run)) ∧
    (¬ (Port.till = .network ∧ inRun.isPresent .till = false ∧ inRun.site = .run)) ∧
    ({ inRun with gt := { inRun.gt with eg := 4294967294 } }.isPresent .network = false ∧ inRun.site = .run ∧
      4294967294 < Config.maxWord) := by
  decide

theorem witness_PingReportsAndClears (p : Port) :
    State.reset.Ready p ∧ 2 ≤ ([0, 0] : List Byte).length ∧ 2 ≤ (2 : Byte).toNat :=
  ⟨⟨rfl, by cases p <;> rfl⟩, by decide, by decide⟩

/-- A queue of receipts owed to port N. -/
def owing (n : Nat) (s : State) : State :=
  { s with rq := { s.rq with receipts := (List.range' 1 n).map fun k => receiptNo k false, nextReceipt := n + 1 } }

/-- A round has been completed, and bay 1 has an acknowledged grant above any budget and an overdue mark. -/
def overdueBay : State :=
  (after .roundTick { charging with tb := { charging.tb with ms := 2000 } }).updGrant 1 fun x =>
    { x with a := 65536, overdue := true }

theorem witness_ReadNoticeSelects :
    State.reset.Ready .till ∧
    ((1, Notice.restarted) ∈ codedNotices .till ∧ (State.reset.arrive .till).isPending .till .restarted = true ∧
      maskEnables ((State.reset.arrive .till).port .till).mask 1 = true ∧ (∀ x ∈ codedNotices .till, ¬ x.1 < 1)) ∧
    ((5, Notice.networkLapsed) ∈ codedNotices .energy ∧ (inRun.arrive .energy).isPending .energy .networkLapsed = true ∧
      ((inRun.arrive .energy).port .energy).events.get .networkLapsed = none) ∧
    (∀ x ∈ codedNotices .till,
      ((State.reset.updPort .till fun y => { y with events := EventBox.none }).arrive .till).isPending .till x.2 = false) ∧
    ((2, Notice.voucherExpired) ∈ codedNotices .till ∧
      (State.reset.arrive .till).isPending .till .voucherExpired = false) ∧
    (2 ≤ ([1, 2] : List Byte).length ∧ (codedNotices .till).length < (4 : Byte).toNat) ∧
    (inRun.site = .run ∧ (inRun.port .network).presence = .lapsed) ∧
    (overdueBay.site = .run ∧ (overdueBay.al.results.map fun r => decide (r.cb < overdueBay.committedSum)) = some true ∧
      overdueBay.overdueBays = [1]) ∧
    (56 ≤ (owing 56 served).rq.receipts.length ∧ ¬ 56 ≤ (owing 55 served).rq.receipts.length ∧
      (owing 56 served).owed .network ≠ []) ∧
    (setBay1 .waiting none { served with bt := { served.bt with slotWait := [1] } }).bt.slotWait ≠ [] :=
  ⟨⟨rfl, rfl⟩, by decide, by decide, by decide, by decide, by decide, by decide, by decide, by decide, by decide⟩

theorem witness_SetNoticeMaskTakesListedBits :
    State.reset.Ready .energy ∧ [(1 : Byte)].length ≠ 2 ∧ [(1 : Byte), 2, 3].length ≠ 2 :=
  ⟨⟨rfl, rfl⟩, by decide, by decide⟩

theorem witness_ConfigItemsStoreAndClamp :
    valueEncoded (.chanEdge .canopy) 1 = true ∧ valueEncoded .bayMin 10 = true ∧ 1 ≤ 8 ∧ 300 ≤ 300 ∧ 900 ≤ 1799 ∧
    (ConfigItem.bayMin, 10, 100) ∈ [(ConfigItem.bayMin, 10, 100)] ∧ 9 < 10 ∧ 100 < 101 ∧ 10 ≤ 100 ∧
    (ConfigItem.chanFilter .canopy, 1, 8) ∈ [(ConfigItem.chanFilter .canopy, 1, 8)] ∧ 0 < 1 ∧ 8 < 9 ∧ 299 < 300 := by
  decide

/-- The pairs of a WRITE CONFIG that enables a channel and writes a bay min out of range. -/
def twoPairs : List ConfigPair :=
  [⟨some (.chanEnable .canopy), 1⟩, ⟨some .bayMin, 5⟩]

theorem witness_WriteConfigTakes :
    State.reset.Ready .energy ∧ inRun.Ready .energy ∧
    (twoPairs ≠ [] ∧
      twoPairs.map (fun x => (x.item, x.value.toNat)) =
        [(ConfigItem.chanEnable .canopy, 1), (ConfigItem.bayMin, 5)].map (fun x => (some x.1, x.2)) ∧
      (∀ x ∈ [(ConfigItem.chanEnable .canopy, 1), (ConfigItem.bayMin, 5)], x.2 ≤ 1 ∨ x.1 = .bayMin) ∧
      State.reset.site = .configure ∧ inRun.site = .run) ∧
    (∃ x ∈ [(⟨none, 1⟩ : ConfigPair)], x.item = none) ∧
    (∃ x ∈ [(⟨some (.chanEdge .canopy), 2⟩ : ConfigPair)], x.item = some (.chanEdge .canopy) ∧ 2 ≤ x.value.toNat) :=
  ⟨⟨rfl, rfl⟩, ⟨rfl, rfl⟩, by decide, by decide, by decide⟩

theorem witness_ReadConfigReturnsItems : State.reset.Ready .energy ∧ inRun.Ready .energy :=
  ⟨⟨rfl, rfl⟩, ⟨rfl, rfl⟩⟩

/-- A configuration whose fallback power exceeds the safe import cap by one. -/
def capTooLow : State :=
  { State.reset with cfg := { State.reset.cfg with safeImportCap := State.reset.cfg.fallbackPower * 8 - 1 } }

/-- A Pending Set with all three SoC parts. -/
def socPending : State :=
  { State.reset with ls := { State.reset.ls with pend := { State.reset.ls.pend with
    socFloor := some 5, socCeil := some 3, socTarget := some 9, waiting := true } } }

/-- COMMIT SITE puts the floor, the ceiling and the target in order within a capacity of 0 (R12, step 1). -/
theorem test_commit_clamps_pending :
    (fun p : PendingSet => (p.socFloor, p.socCeil, p.socTarget)) (after (.commitSite .energy 7 []) socPending).ls.pend =
      (some 0, some 0, some 0) := by decide

/-- A configuration with the CANOPY channel enabled and a canopy rated power of 0. -/
def noCanopyPower : State := nearPulse .canopy

theorem witness_CommitSiteEntersRun :
    State.reset.Ready .energy ∧ inRun.Ready .energy ∧ capTooLow.Ready .energy ∧ noCanopyPower.Ready .energy ∧
    (socPending.Ready .energy ∧ socPending.site = .configure ∧ socPending.ls.pend.socFloor = some 5 ∧
      socPending.ls.pend.socCeil = some 3 ∧ socPending.ls.pend.socTarget = some 9 ∧
      State.reset.ls.pend.socFloor = none ∧ State.reset.ls.pend.socCeil = none ∧
      State.reset.ls.pend.socTarget = none) ∧
    (State.reset.site = .configure ∧
      State.reset.cfg.fallbackPower * State.reset.cfg.bayCount ≤ State.reset.cfg.safeImportCap ∧
      ¬ (State.reset.cfg.canopyRated = 0 ∧ (State.reset.cfg.chan.get .canopy).enabled = true)) ∧
    inRun.site = .run ∧
    (capTooLow.site = .configure ∧ capTooLow.cfg.safeImportCap < capTooLow.cfg.fallbackPower * capTooLow.cfg.bayCount) ∧
    (noCanopyPower.site = .configure ∧
      noCanopyPower.cfg.fallbackPower * noCanopyPower.cfg.bayCount ≤ noCanopyPower.cfg.safeImportCap ∧
      noCanopyPower.cfg.canopyRated = 0 ∧ (noCanopyPower.cfg.chan.get .canopy).enabled = true) :=
  ⟨⟨rfl, rfl⟩, ⟨rfl, rfl⟩, ⟨rfl, rfl⟩, ⟨rfl, rfl⟩, ⟨⟨rfl, rfl⟩, by decide⟩, by decide, by decide, by decide, by decide⟩

theorem witness_EnterConfigureClears :
    inRun.Ready .energy ∧ charging.Ready .energy ∧ (State.reset.Ready .energy ∧ State.reset.site = .configure) ∧
    (inRun.site = .run ∧ inRun.dg.window = some monoWindow ∧ inRun.st.sessions = []) ∧
    (charging.site = .run ∧ charging.dg.window = some monoWindow ∧ charging.st.sessions ≠ []) :=
  ⟨⟨rfl, rfl⟩, ⟨rfl, rfl⟩, ⟨⟨rfl, rfl⟩, rfl⟩, by decide, by decide⟩

/-- A table of eight bands whose last starts at 1439. -/
def eightBands : List BandFields :=
  [0, 1, 2, 3, 4, 5, 6, 1439].map fun n => ⟨BitVec.ofNat 16 n, 180, false, false⟩

theorem witness_PendingSetTakesWrites :
    State.reset.Ready .energy ∧
    (⟨none, none, none, some 5001, none, none, none⟩ : LimitFields) ≠ ⟨none, none, none, none, none, none, none⟩ ∧
    (⟨none, none, none, none, some 1, none, none⟩ : LimitFields).socFloor ≠ none ∧
    (1 ≤ eightBands.length ∧ eightBands.length ≤ 8 ∧ (eightBands.map fun b => b.start.toNat).Pairwise (· < ·) ∧
      ∀ b ∈ eightBands, b.start.toNat ≤ 1439) ∧
    ¬ (1 ≤ ([] : List BandFields).length) ∧
    ¬ (([⟨5, 1, false, false⟩, ⟨5, 2, false, false⟩] : List BandFields).map fun b => b.start.toNat).Pairwise (· < ·) :=
  ⟨⟨rfl, rfl⟩, by decide, by decide, by decide, by decide, by decide⟩

theorem witness_SetClockSets :
    State.reset.Ready .energy ∧ inRun.Ready .energy ∧
    ((5 : Byte).toNat * 256 + (159 : Byte).toNat ≤ 1439 ∧ (59 : Byte).toNat ≤ 59) ∧
    (([5, 159] : List Byte).length ≠ 3 ∧ 1439 < (5 : Byte).toNat * 256 + (160 : Byte).toNat ∧ 59 < (60 : Byte).toNat) ∧
    State.reset.site = .configure ∧
    (inRun.site = .run ∧ inRun.dg.window = some monoWindow ∧
      (inRun.cfg.windowLength = 300 ∨ inRun.cfg.windowLength = 900 ∨ inRun.cfg.windowLength = 1800)) :=
  ⟨⟨rfl, rfl⟩, ⟨rfl, rfl⟩, by decide, by decide, by decide, by decide⟩

theorem witness_ReadSiteReportsAndClears :
    State.reset.Ready .energy ∧ charging.Ready .energy ∧ charging.tb.clockPhase < 60000 :=
  ⟨⟨rfl, rfl⟩, ⟨rfl, rfl⟩, by decide⟩

theorem witness_ReadWindowsReturns : State.reset.Ready .energy ∧ inRun.Ready .energy :=
  ⟨⟨rfl, rfl⟩, ⟨rfl, rfl⟩⟩

theorem witness_AllowanceFollowsWindow :
    ({ clockWindow with d := 0 }.d = 0) ∧
    ({ clockWindow with e := 50000 }.d ≠ 0 ∧ clockWindow.elim ≤ { clockWindow with e := 50000 }.e) ∧
    (clockWindow.d ≠ 0 ∧ { clockWindow with e := 49999 }.e < clockWindow.elim) ∧
    (monoWindow.basis = .monotonic ∧ { inRun.tb with monoMin := 14, monoPhase := 59999 }.monoMin < monoWindow.endMinute ∧
      59999 < 60000) ∧
    (clockWindow.basis = .clock ∧ clockWindow.endMinute < 1440 ∧ (guarded 661 59999).tb.minuteOfDay < 1440 ∧
      clockWindow.endMinute ≠ (guarded 661 59999).tb.minuteOfDay ∧ (guarded 661 59999).tb.clockPhase < 60000) := by
  decide

/-- A channel with an interval of 125 ms, last pulsed at millisecond 0, at a quiet time. -/
def measured (quiet : Word) : State := { nearPulse .canopy with
  tb := { State.reset.tb with ms := quiet }
  mi := { State.reset.mi with
    chan := State.reset.mi.chan.set .canopy ⟨some false, none, .many, some 0, some 125, 0, false, 2⟩ } }

theorem witness_ReadChannelsEstimates :
    (measured 60000).Ready .energy ∧
    (State.reset.cfg.chan.get .gridIn).enabled = false ∧ (State.reset.mi.chan.get .gridIn).count ≠ .many ∧
    (((measured 60000).mi.chan.get .canopy).lastPulse = some 0 ∧
      ((measured 60000).mi.chan.get .canopy).interval = some 125 ∧
      ((measured 60000).cfg.chan.get .canopy).enabled = true ∧ ((measured 60000).mi.chan.get .canopy).count = .many ∧
      ((measured 60000).mi.chan.get .canopy).silent = false ∧
      ((measured 60000).tb.ms - 0).toNat ≤ (measured 60000).cfg.silenceLimit * 1000) ∧
    (measured 60001).cfg.silenceLimit * 1000 < ((measured 60001).tb.ms - 0).toNat :=
  ⟨⟨rfl, rfl⟩, by decide, by decide, by decide, by decide⟩

theorem witness_BayReportsChecks :
    served.Ready .network ∧ State.reset.Ready .network ∧
    (∀ x ∈ List.replicate 8 (entry1 255 true 65535 4294967295), x.bay < 256 ∧ x.request < 65536 ∧ x.measured < 65536 ∧
      x.connectorMax < 65536 ∧ x.reading < 4294967296) ∧
    ((0 : Byte).toNat = 0 ∧ 8 < (9 : Byte).toNat ∧ [(1 : Byte)].length ≠ 12 * (1 : Byte).toNat) ∧
    reportFields [0] = none ∧
    (0 < (1 : Byte).toNat ∧ ((report1 1 2 220 5).drop 1)[12 * 0 + 1]? = some 2 ∧ 2 ≤ (2 : Byte).toNat) ∧
    (reportFields (report1 0 1 220 5) = some [entry1 0 true 220 5] ∧ State.reset.site = .configure ∧
      served.site = .run ∧ (entry1 0 true 220 5).bay = 0 ∧ served.cfg.bayCount < (entry1 9 true 220 5).bay) ∧
    (reportFields (2 :: ((report1 1 1 220 5).drop 1 ++ (report1 8 0 220 5).drop 1)) =
        some [entry1 1 true 220 5, entry1 8 false 220 5] ∧ 8 ≤ served.cfg.bayCount ∧
      (served.bay 8).map (·.state) = some .vacant) :=
  ⟨⟨rfl, rfl⟩, ⟨rfl, rfl⟩, by decide, by decide, by decide, by decide, by decide, by decide⟩

/-- RUN with port N PRESENT and every session slot taken by another bay's session. -/
def fullTable : State :=
  { served with st := ⟨List.replicate 16 { openSession with bay := 2 }, [], 2⟩ }

theorem witness_PluggedReportOpensSession :
    served.Ready .network ∧ fullTable.Ready .network ∧
    (reportFields (report1 8 1 220 5) = some [entry1 8 true 220 5] ∧ served.site = .run ∧ 8 ≤ served.cfg.bayCount ∧
      served.bay 8 = some (BayRec.fresh 8) ∧ (BayRec.fresh 8).state = .vacant ∧ (entry1 8 true 220 5).plugged = true ∧
      served.st.sessions.length < served.straps.bayCount + 8) ∧
    (fullTable.site = .run ∧ fullTable.bay 8 = some (BayRec.fresh 8) ∧
      fullTable.straps.bayCount + 8 ≤ fullTable.st.sessions.length) :=
  ⟨⟨rfl, rfl⟩, ⟨rfl, rfl⟩, by decide, by decide⟩

/-- The session table's laws hold while bay 1 charges. -/
theorem charging_sessionsOk : charging.SessionsOk where
  size := by decide
  distinct := by decide
  numbers := by decide
  next := by decide
  balanced := by
    intro x hx
    have : x = openSession := by simpa [charging] using hx
    subst this
    exact ⟨by decide, by decide, by decide, by decide, by decide, by decide, by decide⟩

theorem witness_NewSessionNumberIsFree :
    charging.straps.bayCount ≤ 32 ∧ charging.SessionsOk ∧ charging.st.nextSession ∉ charging.st.sessions.map (·.number) :=
  ⟨by decide, charging_sessionsOk, by decide⟩

/-- RUN with port N PRESENT, bay 1 in a state without a session. -/
def quietBay (st : BayState) : State := setBay1 st none served

/-- The same with bay 1 on the Slot Wait List. -/
def waitingBay : State := { quietBay .waiting with
  bt := { (quietBay .waiting).bt with slotWait := [1] } }

/-- Bay 1 DONE with an issued grant of 100. -/
def grantedDone : State := (quietBay .done).updGrant 1 fun x => { x with g := 100, a := 100 }

theorem witness_UnchargedReportsRefresh :
    (∀ st, (quietBay st).Ready .network) ∧ waitingBay.Ready .network ∧ grantedDone.Ready .network ∧
    (reportFields (report1 1 0 220 5) = some [entry1 1 false 220 5] ∧
      reportFields (report1 1 1 99 5) = some [entry1 1 true 99 5] ∧ served.site = .run ∧ 1 ≤ served.cfg.bayCount) ∧
    ((quietBay .vacant).bay 1).map (·.state) = some .vacant ∧ (waitingBay.bay 1).map (·.state) = some .waiting ∧
    ((quietBay .outOfService).bay 1).map (·.state) = some .outOfService ∧
    (((quietBay .vacant).arrive .network).grant 1).g ≤ min 220 served.cfg.perBayCap ∧
    ((grantedDone.bay 1).map (·.state) = some .done ∧
      min 99 grantedDone.cfg.perBayCap < ((grantedDone.arrive .network).grant 1).g ∧
      (grantedDone.arrive .network).gt.eg < Config.maxWord) :=
  ⟨fun _ => ⟨rfl, rfl⟩, ⟨rfl, rfl⟩, ⟨rfl, rfl⟩, by decide, by decide, by decide, by decide, by decide, by decide⟩

theorem witness_ChargingReportMeters :
    charging.Ready .network ∧
    (reportFields (report1 1 1 220 1005) = some [entry1 1 true 220 1005] ∧
      reportFields (report1 1 0 220 1005) = some [entry1 1 false 220 1005] ∧ charging.site = .run ∧
      (charging.bay 1).map (·.state) = some .active ∧ (charging.bay 1).map (·.session) = some (some 1) ∧
      1 ∉ charging.bt.slotWait) ∧
    ((setBay1 .fallback (some 1) charging).bay 1).map (·.state) = some .fallback :=
  ⟨⟨rfl, rfl⟩, by decide, by decide⟩

/-- What R99 makes of an issued grant of 100 at a bay max of 99, of 14 and of 13, with the default bay min of 14. -/
theorem test_lowered_grant :
    [99, 14, 13, 100].map (fun m => ((grantedDone.lowered 1 m).grant 1).g) = [99, 14, 0, 100] ∧
      ((grantedDone.lowered 1 99).gt.eg, (grantedDone.lowered 1 100).gt.eg) = (1, 0) := by decide

theorem witness_ServiceChanges :
    (([1] : List Byte).length ≠ 2 ∧ 2 ≤ (2 : Byte).toNat ∧ (1 : Byte).toNat ≤ 1 ∧ (0 : Byte).toNat = 0 ∧
      charging.cfg.bayCount < (9 : Byte).toNat) ∧
    (∀ st, (quietBay st).Ready .network) ∧ waitingBay.Ready .network ∧ charging.Ready .network ∧
    (1 ≤ (1 : Byte).toNat ∧ (8 : Byte).toNat ≤ charging.cfg.bayCount ∧ (charging.arrive .network).gt.eg < Config.maxWord ∧
      1 ∉ charging.bt.slotWait) ∧
    ((quietBay .vacant).bay 1).map (·.state) = some .vacant ∧ ((quietBay .done).bay 1).map (·.state) = some .done ∧
    (waitingBay.bay 1).map (·.state) = some .waiting ∧ (charging.bay 1).map (·.state) = some .active ∧
    ((quietBay .outOfService).bay 1).map (·.state) = some .outOfService :=
  ⟨by decide, fun _ => ⟨rfl, rfl⟩, ⟨rfl, rfl⟩, ⟨rfl, rfl⟩, by decide, by decide, by decide, by decide, by decide, by decide⟩

theorem witness_EndSessionCloses :
    State.reset.Ready .network ∧ charging.Ready .network ∧
    ([] : List Byte).length ≠ 1 ∧ State.reset.site = .configure ∧
    (charging.site = .run ∧ (0 : Byte).toNat = 0 ∧ charging.cfg.bayCount < (9 : Byte).toNat) ∧
    ((charging.bay 1).map (·.state) = some .active ∧ (charging.bay 8).map (·.state) = some .vacant ∧
      (8 : Byte).toNat ≤ charging.cfg.bayCount) :=
  ⟨⟨rfl, rfl⟩, ⟨rfl, rfl⟩, by decide, by decide, by decide, by decide⟩

/-- Eight entries of other keys. -/
def eightEntries : List BandEntry :=
  List.replicate 8 ⟨2, 420, false, 10⟩

theorem witness_ReadingBecomesIncrement :
    999 < openSession.base ∧ openSession.base ≤ 1000 ∧
    (let y := openSession.takeReading 1005 1000 220 (1, ⟨0, 180, false, false⟩)
     (y.metered - openSession.metered) - (y.free - openSession.free) ≠ 0) ∧
    ([⟨1, 180, false, 5⟩] = ([] : List BandEntry) ++ (⟨1, 180, false, 5⟩ : BandEntry) :: []) ∧
    (∀ d ∈ openSession.bands, ¬ (d.index = 1 ∧ d.price = 180)) ∧ openSession.bands.length < 8 ∧
    (∀ d ∈ eightEntries, ¬ (d.index = 1 ∧ d.price = 180)) ∧ 8 ≤ eightEntries.length ∧
    eightEntries = List.replicate 7 ⟨2, 420, false, 10⟩ ++ [⟨2, 420, false, 10⟩] := by
  decide

theorem witness_BandLookupFindsCurrentBand :
    ([⟨360, 1, false, false⟩, ⟨720, 2, false, false⟩].map Band.start).Pairwise (· < ·) ∧
    (∃ c ∈ [(⟨360, 1, false, false⟩ : Band), ⟨720, 2, false, false⟩], c.start ≤ 360) ∧
    (∀ c ∈ [(⟨360, 1, false, false⟩ : Band), ⟨720, 2, false, false⟩], 359 < c.start) ∧
    (State.reset.ls.active.tariff = [⟨0, 0, false, false⟩] ∧ State.reset.tb.minuteOfDay = 0) := by
  decide

/-- A queue of 64 receipts. -/
def fullQueue (s : State) : State :=
  { s with rq := { s.rq with receipts := (List.range' 1 64).map fun n => receiptNo n false, nextReceipt := 65 } }

theorem witness_ClosingReceiptsOrWaits :
    ((charging.bay 1).map (·.session) = some (some 1) ∧ charging.session 1 = some openSession ∧
      charging.hasRoom = true ∧ charging.bt.slotWait = []) ∧
    (((fullQueue charging).bay 1).map (·.session) = some (some 1) ∧ (fullQueue charging).session 1 = some openSession ∧
      (fullQueue charging).hasRoom = false) := by
  decide

theorem witness_ReceiptEntriesArePriced :
    eightEntries.length ≤ 8 ∧ 0 + total (eightEntries.map (·.wh)) ≤ 4294967295 ∧ (∀ e ∈ eightEntries, e.price ≤ 65535) ∧
    ([⟨1, 0, false, 7⟩].map priceEntry).map (·.price) = [0] := by
  decide

/-- A closed session waits for a place while bay 1 waits for its slot. -/
def oneWaits : State := { waitingBay with
  st := ⟨[{ openSession with state := .pendingReceipt, bay := 2 }], [1], 2⟩ }

/-- Two closed sessions wait for a place, and no bay for a slot. -/
def twoWait : State := { served with
  st := ⟨[{ openSession with state := .pendingReceipt }, { openSession with number := 2, state := .pendingReceipt }],
    [2, 1], 3⟩ }

/-- Two places freed at once take both, in closing order (R126). -/
theorem test_places_in_order :
    (State.fillPlaces 2 twoWait).rq.receipts.map (·.session) = [2, 1] ∧
      (State.fillPlaces 2 twoWait).st.sessions = [] := by decide

/-- The laws of the sessions hold there. -/
theorem twoWait_sessionsOk : twoWait.SessionsOk where
  size := by decide
  distinct := by decide
  numbers := by decide
  next := by decide
  balanced := by
    intro x hx
    have : x = { openSession with state := .pendingReceipt } ∨
        x = { openSession with number := 2, state := .pendingReceipt } := by simpa [twoWait] using hx
    rcases this with rfl | rfl <;>
      exact ⟨by decide, by decide, by decide, by decide, by decide, by decide, by decide⟩

theorem witness_FreedPlaceAdmitsHead :
    (oneWaits.hasRoom = true ∧ oneWaits.st.pendingOrder = [1] ∧ (oneWaits.session 1).map (·.bay) = some 2 ∧
      oneWaits.bt.slotWait = [1] ∧ (oneWaits.bay 1).map (·.state) = some .waiting) ∧
    (twoWait.hasRoom = true ∧ twoWait.st.pendingOrder = 2 :: [1] ∧ (twoWait.session 2).map (·.number) = some 2 ∧
      twoWait.bt.slotWait = []) ∧
    served.st.pendingOrder = [] ∧ { twoWait.rq with exhausted := true }.exhausted = true ∧
    twoWait.SessionsOk ∧ twoWait.st.pendingOrder.Nodup ∧ (∀ n ∈ twoWait.st.pendingOrder, (twoWait.session n).isSome = true) ∧
    twoWait.rq.exhausted = false ∧ twoWait.rq.receipts.length + 64 ≤ 64 ∧
    { twoWait.rq with nextReceipt := 4294967294 }.nextReceipt + 2 ≤ 4294967296 :=
  ⟨by decide, by decide, by decide, by decide, twoWait_sessionsOk, by decide, by decide, by decide, by decide, by decide⟩

theorem witness_ReadSessionReturnsRecord :
    charging.Ready .network ∧ charging.Ready .energy ∧
    (charging.session 1 = some openSession ∧ openSession.state = .opened ∧
      (charging.bay 1).map (·.session) = some (some 1)) ∧
    (oneWaits.session 1).map (·.state) = some .pendingReceipt ∧
    ((2 : Half) ≠ 0 ∧ charging.session 2 = none ∧ (charging.bay 8).map (·.session) = some none ∧
      ¬ (9 ≤ charging.cfg.bayCount)) :=
  ⟨⟨rfl, rfl⟩, ⟨rfl, rfl⟩, by decide, by decide, by decide⟩

/-- Two receipts: the first owed to port N alone, the second to both. -/
def twoReceipts : State :=
  { served with rq := { served.rq with receipts := [receiptNo 3 false, receiptNo 4 true], nextReceipt := 5 } }

theorem witness_PeekReturnsOldestOwed :
    twoReceipts.Ready .till ∧ served.Ready .network ∧
    (twoReceipts.rq.receipts = [receiptNo 3 false] ++ receiptNo 4 true :: [] ∧
      (∀ q ∈ [receiptNo 3 false], q.owedTo .till = false) ∧ (receiptNo 4 true).owedTo .till = true) ∧
    (∀ q ∈ served.rq.receipts, q.owedTo .network = false) :=
  ⟨⟨rfl, rfl⟩, ⟨rfl, rfl⟩, by decide, by decide⟩

theorem witness_TakeReceiptSettles :
    twoReceipts.Ready .till ∧ twoReceipts.ReceiptsOk ∧
    ((twoReceipts.rq.receipts.filter fun r => r.owedTo .till) = [receiptNo 4 true] ∧
      (receiptNo 4 true).number = (4 : Word).toNat ∧ (receiptNo 4 true).number ≠ (3 : Word).toNat) ∧
    twoReceipts.st.pendingOrder = [] :=
  ⟨⟨rfl, rfl⟩, ⟨by decide, by decide, by decide, by decide, by decide, by decide⟩, by decide, by decide⟩

/-- The tables' shape holds in RUN while bay 1 charges. -/
theorem charging_tablesOk : charging.TablesOk :=
  ⟨by decide, by decide, by decide, by decide, by decide⟩

theorem witness_ReadGrantsListsBays : charging.Ready .network ∧ charging.TablesOk :=
  ⟨⟨rfl, rfl⟩, charging_tablesOk⟩

/-- Epochs 5 issued and 3 acknowledged. -/
def epochs : State := { charging with gt := { charging.gt with eg := 5, ea := 3 } }

theorem witness_AckGrantsConfirms :
    epochs.Ready .network ∧ (epochs.arrive .network).gt.eg < 6 ∧ (2 ≤ (epochs.arrive .network).gt.eg ∧
      2 < (epochs.arrive .network).gt.ea) ∧ (5 ≤ (epochs.arrive .network).gt.eg ∧ (epochs.arrive .network).gt.ea ≤ 3) ∧
    ([] : List Byte).length ≠ 4 :=
  ⟨⟨rfl, rfl⟩, by decide, by decide, by decide, by decide⟩

/-- The bindings hold while bay 1 charges. -/
theorem charging_bindingsOk : charging.BindingsOk where
  naming := by decide
  named := by
    have h : ∀ b ∈ charging.bt.bays, b.session = none ∨ (b.session = some 1 ∧ b.number = 1) := by decide
    intro b hb n hn
    rcases h b hb with h | ⟨h, h1⟩
    · simp [h] at hn
    · have : n = 1 := by simpa [h] using hn.symm
      exact ⟨openSession, by decide, this.symm, rfl, h1.symm⟩
  bound := by
    intro x hx _
    have : x = openSession := by simpa [charging] using hx
    subst this
    decide
  order := by decide
  pending := by
    have h : ∀ x ∈ charging.st.sessions, x.state ≠ .pendingReceipt := by decide
    exact fun n => ⟨fun hn => by simp [charging] at hn, fun ⟨x, hx, _, hs⟩ => absurd hs (h x hx)⟩
  full := by decide
  list := by decide
  waiting := by
    have h : ∀ b ∈ charging.bt.bays, b.state ≠ .waiting := by decide
    have e : charging.bt.slotWait = [] := by decide
    exact fun k => ⟨fun hk => by simp [e] at hk, fun ⟨b, hb, _, hs⟩ => absurd hs (h b hb)⟩
  held := by decide
  configure := by decide

theorem witness_IssueLowersThenRaises :
    charging.TablesOk ∧ ([(1, 100), (2, 0)].map Prod.fst).Nodup ∧ charging.SessionsOk ∧ charging.BindingsOk ∧
    ((charging.st.sessions.filter fun x => decide (x.state = .opened)).map (·.bay) = [] ++ 1 :: [] ∧
      ([1] : List Nat).Nodup) ∧
    ((1, 100) ∈ [(1, 100), (2, 0)] ∧ (charging.grant 1).g ≤ 100) ∧
    (∀ v ∈ [(1, 100), (2, 0)], v.1 ≠ 3) ∧ (grantedDone.grant 1).g = 100 ∧ 99 < (grantedDone.grant 1).g ∧
    (charging.isInService 1 = true ∧ (charging.issueTargets [(1, 100)] 100).committedSum ≤ 100 ∧
      ((charging.issueTargets [(1, 100)] 100).grant 1).g = 100) :=
  ⟨charging_tablesOk, by decide, charging_sessionsOk, charging_bindingsOk, by decide, by decide, by decide, by decide,
    by decide, by decide⟩

/-- A Voucher List of 48 records. -/
def fullList : State :=
  { State.reset with vl := ⟨(List.range' 1 48).map fun n => { voucherOf .unclaimed with number := n }⟩ }

theorem witness_PostVoucherAppends :
    State.reset.Ready .till ∧ fullList.Ready .till ∧
    ((⟨0, 4, 8745⟩ : PostFields).number = 0 ∧ (⟨1, 0, 8745⟩ : PostFields).till = 0 ∧
      63 < (⟨1, 64, 8745⟩ : PostFields).till.toNat) ∧
    (∃ v ∈ fullList.vl.vouchers, v.number = 48) ∧ (1499 < State.reset.cfg.minBasket ∧ State.reset.cfg.minBasket ≤ 1500) ∧
    (48 ≤ fullList.vl.vouchers.length ∧ ¬ ∃ v ∈ fullList.vl.vouchers, v.number = 49) ∧
    (State.reset.vl.vouchers.length < 48 ∧
      State.reset.tb.monoMin + State.reset.cfg.voucherValidity ≤ Config.maxWord) :=
  ⟨⟨rfl, rfl⟩, ⟨rfl, rfl⟩, by decide, by decide, by decide, by decide, by decide⟩

/-- A list of one voucher. -/
def withVoucher (st : VoucherState) (s : State) : State :=
  { s with vl := ⟨[voucherOf st]⟩ }

/-- Bay 1 charges and its session names voucher 7731. -/
def credited (st : VoucherState) : State := { withVoucher st charging with
  st := ⟨[{ openSession with voucher := some 7731, creditGranted := 3480, creditLeft := 3480 }], [], 2⟩ }

theorem witness_ClaimVoucherBinds :
    State.reset.Ready .network ∧ (withVoucher .unclaimed charging).Ready .network ∧
    State.reset.site = .configure ∧ (charging.site = .run ∧ ¬ (9 ≤ charging.cfg.bayCount)) ∧ charging.voucher 7731 = none ∧
    (withVoucher .claimed charging).voucher 7731 = some (voucherOf .claimed) ∧ (voucherOf .claimed).state ≠ .unclaimed ∧
    ((withVoucher .unclaimed charging).voucher 7731 = some (voucherOf .unclaimed) ∧
      ((withVoucher .unclaimed charging).bay 8).map (·.state) = some .vacant ∧
      ((withVoucher .unclaimed charging).bay 1).map (fun b => (b.state, b.session)) = some (.active, some 1) ∧
      (withVoucher .unclaimed charging).session 1 = some openSession ∧ openSession.voucher = none) ∧
    ((credited .unclaimed).session 1).map (·.voucher) = some (some 7731) :=
  ⟨⟨rfl, rfl⟩, ⟨rfl, rfl⟩, by decide, by decide, by decide, by decide, by decide, by decide, by decide⟩

theorem witness_WithdrawVoucherEndsCredit :
    (∀ st, (credited st).Ready .till) ∧ State.reset.voucher 7731 = none ∧
    (credited .unclaimed).voucher 7731 = some (voucherOf .unclaimed) ∧
    ((credited .claimed).voucher 7731 = some (voucherOf .claimed) ∧ (voucherOf .claimed).session = some 1 ∧
      ((credited .claimed).session 1).map (·.creditLeft) = some 3480) ∧
    (credited .withdrawn).voucher 7731 = some (voucherOf .withdrawn) :=
  ⟨fun _ => ⟨rfl, rfl⟩, by decide, by decide, by decide, by decide⟩

theorem witness_BayAndVoucherReadsReturn :
    charging.Ready .network ∧ (credited .claimed).Ready .till ∧
    ((1 : Byte).toNat ≤ charging.cfg.bayCount ∧ (charging.bay 1).map (·.session) = some (some 1) ∧
      (charging.bay 8).map (·.state) = some .vacant ∧ charging.cfg.bayCount < (9 : Byte).toNat) ∧
    ([1, 2] : List Byte).length ≠ 1 ∧ State.reset.voucher 7731 = none ∧
    ((credited .claimed).voucher 7731 = some (voucherOf .claimed) ∧ (voucherOf .claimed).state ≠ .unclaimed ∧
      ((credited .claimed).session 1).map (·.free) = some 0) ∧
    (withVoucher .unclaimed charging).voucher 7731 = some (voucherOf .unclaimed) :=
  ⟨⟨rfl, rfl⟩, ⟨rfl, rfl⟩, by decide, by decide, by decide, by decide, by decide⟩

/-- Port T with a receiver and, on demand, a response being sent. -/
def receiving (rx : Receiver) (busy : Bool) : State :=
  State.reset.updPort .till fun x => { x with rx := rx, tx := if busy then some ⟨0, 1, .ok, .empty⟩ else none }

theorem witness_LineEventsActOnPort :
    State.reset.held = none ∧ (State.reset.port .till).rx.waitingGap = true ∧
    ((receiving ⟨false, [1], 1, false⟩ true).port .till).tx ≠ none ∧
    ((receiving ⟨false, [1], 1, true⟩ false).port .till).rx.stopLow = true ∧
    (245 < ((receiving ⟨false, [], 246, false⟩ false).port .till).rx.count) ∧
    ([(1 : Byte)].length < 4 ∧ (240 : Nat) < (241 : Byte).toNat) ∧
    ¬ ((([0x5A, 0x01, 0x00, 0xA5] : List Byte).map (·.toNat)).sum % 256 ≠ 0) ∧ (4 : Byte) ∉ catalogueCodes := by
  decide

theorem witness_TimeAdvances :
    State.reset.held = none ∧ State.reset.tb.advanceMade = false ∧ State.reset.tb.monoPhase < 60000 ∧
    (60000 ≤ { State.reset.tb with monoPhase := 60000 }.monoPhase ∧
      { State.reset.tb with monoMin := 4294967294 }.monoMin < Config.maxWord) ∧
    (60000 ≤ { State.reset.tb with clockPhase := 60000 }.clockPhase ∧
      { State.reset.tb with minuteOfDay := 1439 }.minuteOfDay < 1440) ∧
    { State.reset.tb with advanceMade := true }.advanceMade = true := by
  decide

/-- Two vouchers, one of them past its expiry minute of 180. -/
def expired : State := { State.reset with
  tb := { State.reset.tb with monoMin := 181 }
  vl := ⟨[voucherOf .unclaimed, { voucherOf .unclaimed with number := 9, expiry := 181 }]⟩ }

theorem witness_MinuteEventsSweep :
    expired.held = none ∧
    (expired.vl.vouchers.filter fun v => decide (v.state = .unclaimed ∧ v.expiry < expired.tb.monoMin)) =
      [] ++ [voucherOf .unclaimed] ∧
    (State.reset.vl.vouchers.filter fun v => decide (v.state = .unclaimed ∧ v.expiry < State.reset.tb.monoMin)) = [] ∧
    (State.reset.site = .configure ∧ charging.site = .run) ∧
    ((expired.port .till).presence = .lapsed ∧ expired.rq.tillReleased = false ∧
      State.reset.jl.tillHold < 241 - (expired.port .till).lapseStart) ∧
    ¬ ((makePresent .till expired).port .till).presence = .lapsed := by
  decide

theorem witness_WindowEndRecordsAndReopens :
    inRun.held = none ∧ inRun.dg.window = some monoWindow ∧ State.reset.site = .configure ∧
    inRun.tb.monoMin ≠ monoWindow.endMinute ∧
    (inRun.site = .run ∧ { inRun with tb := { inRun.tb with monoMin := 15 } }.tb.monoMin = monoWindow.endMinute ∧
      inRun.cfg.windowLength = 900 ∧ (15 / 15 + 1) * 15 ≤ Config.maxWord) := by
  decide

/-- Port N was last heard at millisecond 0, and bay 1's grants differ since then, at a millisecond value. -/
def lateNetwork (ms : Word) : State :=
  ({ charging with tb := { charging.tb with ms := ms, nextTick := some 2000 } }).updGrant 1 fun x =>
    { x with a := 42, mismatch := some 0 }

theorem witness_ExpiriesMark :
    (lateNetwork 10001).held = none ∧
    (((lateNetwork 10001).port .network).timer = some 0 ∧ ((lateNetwork 10001).port .network).presence = .present ∧
      (lateNetwork 10001).jl.presenceN * 1000 < ((lateNetwork 10001).tb.ms - 0).toNat ∧
      ¬ ((lateNetwork 10000).jl.presenceN * 1000 < ((lateNetwork 10000).tb.ms - 0).toNat) ∧
      (lateNetwork 10001).site = .run) ∧
    ((makePresent .till State.reset).port .till).timer = some 0 ∧
    (((measured 60001).chanCfg .canopy).enabled = true ∧ ((measured 60001).chan .canopy).silent = false ∧
      (measured 60001).jl.silence * 1000 < ((measured 60001).tb.ms - ((measured 60001).chan .canopy).silenceRef).toNat) ∧
    ((lateNetwork 10001).isInService 1 = true ∧ ((lateNetwork 10001).grant 1).overdue = false ∧
      ((lateNetwork 10001).grant 1).mismatch = some 0 ∧
      (lateNetwork 10001).cfg.ackLimit * 1000 < ((lateNetwork 10001).tb.ms - 0).toNat) ∧
    ((lateNetwork 2000).tb.nextTick = some 2000 ∧
      (lateNetwork 2000).cfg.roundPeriod * 1000 ≤ ((lateNetwork 2000).tb.ms - (2000 - BitVec.ofNat 32 2000)).toNat ∧
      ¬ ((lateNetwork 1999).cfg.roundPeriod * 1000 ≤ ((lateNetwork 1999).tb.ms - (2000 - BitVec.ofNat 32 2000)).toNat)) := by
  decide

theorem witness_SamplesMakePulses :
    (nearPulse .canopy).held = none ∧ (State.reset.chanCfg .canopy).enabled = false ∧
    (((nearPulse .canopy).chanCfg .canopy).enabled = true ∧ ((nearPulse .canopy).chan .canopy).filt = some (true, 2) ∧
      min (2 + 1) ((nearPulse .canopy).chanCfg .canopy).filter = ((nearPulse .canopy).chanCfg .canopy).filter ∧
      ((nearPulse .canopy).chan .canopy).accepted = some false ∧ true = !((nearPulse .canopy).chanCfg .canopy).falling) ∧
    1 ≠ ((nearPulse .canopy).chanCfg .canopy).filter ∧
    (((nearPulse .canopy).updChan .canopy fun x => { x with accepted := none }).chan .canopy).accepted = none := by
  decide

theorem witness_BoundSamplesSetSoc :
    (nearBound .bfull true).held = none ∧
    ((nearBound .bfull true).mi.bfull.filt = some (true, 7) ∧ (nearBound .bfull true).mi.bfull.accepted ≠ some true) ∧
    ((nearBound .bempty false).mi.bempty.filt = some (false, 7) ∧
      (nearBound .bempty false).mi.bempty.accepted ≠ some false) ∧
    State.reset.mi.bfull.filt = none := by
  decide

theorem witness_ReleaseDecidesKind :
    State.reset.held = none ∧ (after .powerUpReset inRun).held = some .powerUp ∧ (after .pinReset inRun).held = some .pin ∧
    ((after .pinReset inRun).rd.marker = true ∧ (after .pinReset inRun).rd.size1 = false ∧
      (after .pinReset inRun).rd.size0 = false) ∧
    (after .vbakFailure (after .pinReset inRun)).rd.marker = false := by
  decide

theorem witness_TickPreparesRound :
    inRun.ls.pend.waiting = false ∧
    { inRun.ls.pend with waiting := true }.waiting = true ∧
    (inRun.ls.em = none ∧ (inRun.port .energy).presence = .lapsed ∧
      ((makePresent .energy inRun).port .energy).presence = .present) := by
  decide

/-- RUN at a millisecond value, with the next tick at 2000. -/
def atMs (ms : Word) : State := { charging with tb := { charging.tb with ms := ms } }

theorem witness_RoundTickTakesRound :
    (atMs 2000).held = none ∧ (atMs 2000).tb.nextTick = some 2000 ∧ (atMs 2000).site = .run ∧
    ((atMs 2000).cfg.roundPeriod * 1000 ≤ ((atMs 2000).tb.ms - (2000 - BitVec.ofNat 32 2000)).toNat) ∧
    ((atMs 1999).tb.advanceMade = false ∧
      ¬ ((atMs 1999).cfg.roundPeriod * 1000 ≤ ((atMs 1999).tb.ms - (2000 - BitVec.ofNat 32 2000)).toNat) ∧
      (atMs 1999).cfg.roundPeriod * 1000 ≤ ((atMs 1999).tb.ms + 1 - (2000 - BitVec.ofNat 32 2000)).toNat) ∧
    ¬ ((atMs 1998).cfg.roundPeriod * 1000 ≤ ((atMs 1998).tb.ms + 1 - (2000 - BitVec.ofNat 32 2000)).toNat) ∧
    ((atMs 2000).isPresent .network = true ∧ inRun.isPresent .network = false) := by
  decide

theorem witness_RoundFiguresFollowRules :
    charging.dg.window = some monoWindow ∧ (charging.port .network).presence = .present ∧ ¬ (inRun.port .network).presence = .present ∧
    (charging.figures.candidates).map (·.bay) = [1] ∧ charging.TablesOk ∧ charging.SessionsOk ∧ charging.BindingsOk :=
  ⟨by decide, by decide, by decide, by decide, charging_tablesOk, charging_sessionsOk, charging_bindingsOk⟩

/-- The laws of the grants hold there. -/
theorem charging_grantsOk : charging.GrantsOk where
  each := by
    have h : ∀ b ∈ charging.bt.bays, (charging.grant b.number).g = 0 ∧ (charging.grant b.number).a = 0 := by decide
    exact fun b hb => ⟨Or.inl (h b hb).1, fun _ => h b hb⟩
  budget := by
    have e : charging.al.results = none := by decide
    intro r hr
    simp [e] at hr
  before := by decide
  lapsed := by decide
  configure := by decide

/-- Three STANDARD candidates in admission order. -/
def standards : List Candidate := [⟨5, 220, false⟩, ⟨3, 110, false⟩, ⟨17, 120, false⟩]

/-- Their targets for a budget, in the order of admission. -/
def shared (budget : Nat) : List (Option Nat) :=
  [5, 3, 17].map (targetOf (shareBudget 14 24 budget 4 standards).targets)

/-- R81 and R82 by hand: 110 is covered by a share of 116; a share of 13 drops bay 17; 50 in thirds leaves two units, for the
bays 5 and 17 from the pointer 4 on. -/
theorem test_shared :
    shared 350 = [some 120, some 110, some 120] ∧ shared 41 = [some 21, some 20, some 0] ∧
      shared 50 = [some 17, some 16, some 17] ∧ (shareBudget 14 24 50 4 standards).pointer = 18 := by decide

theorem witness_TargetsFitBudget :
    (((standards.map (·.bay)).Nodup ∧ (∀ y ∈ standards, 1 ≤ y.bay ∧ y.bay ≤ 24 ∧ 14 ≤ y.d) ∧ standards ≠ [] ∧
      ∀ y ∈ standards, ∀ w ∈ standards, y.shopper = w.shopper) ∧
      (standards.filter fun y => decide (y.d ≤ 350 / 3)) ≠ [] ∧
      ((standards.filter fun y => decide (y.d ≤ 41 / 3)) = [] ∧ 41 / 3 < 14 ∧
        standards = [⟨5, 220, false⟩, ⟨3, 110, false⟩] ++ [⟨17, 120, false⟩]) ∧
      ((standards.filter fun y => decide (y.d ≤ 50 / 3)) = [] ∧ 14 ≤ 50 / 3)) ∧
    ((saturday.map (·.bay)).Nodup ∧ (∀ y ∈ saturday, 1 ≤ y.bay ∧ y.bay ≤ 24 ∧ 14 ≤ y.d)) ∧
    (⟨5, 220, false⟩ ∈ saturday ∧ targetOf (shareBudget 14 24 586 9 saturday).targets 5 = some 127 ∧
      ⟨8, 74, true⟩ ∈ saturday) ∧
    charging.TablesOk ∧ charging.SessionsOk ∧ charging.BindingsOk :=
  ⟨by decide, by decide, by decide, charging_tablesOk, charging_sessionsOk, charging_bindingsOk⟩

/-- R167's PEEK RECEIPT payload of a receipt without entries: one byte and 44. -/
theorem test_receipt_layout :
    (Reply.receipt 1 (receiptNo 3 true)).bytes.length = 45 ∧
      (Reply.receipt 1 (receiptNo 3 true)).bytes.take 8 = [1, 0, 0, 0, 3, 0, 1, 1] := by decide

theorem witness_RequestFramesRoundTrip :
    ([] : List Byte).length ≤ 240 ∧ (0x41 : Byte) ∈ catalogueCodes ∧ (0x42 : Byte) ∉ catalogueCodes ∧
    (List.replicate 8 (⟨32, .active, some 65535⟩ : ReportReply)).length ≤ 8 ∧
    (List.replicate 32 (⟨32, 100, 90, 7, true, true⟩ : GrantReply)).length ≤ 32 ∧ (32 : Nat) < 64 ∧
    (receiptNo 3 true).entries.length ≤ 8 ∧ (8 : Nat) < 16 := by
  decide

/-- A session's report waits in the queue. -/
def queued : State := { charging with pending := [.bayReports .network 7 (report1 1 1 220 1005)] }

/-- The power-up limits are in their ranges. -/
theorem queued_limitsOk : queued.LimitsOk where
  waiting := by decide
  together := by decide
  pend := ⟨by decide, by decide, by decide, by decide, by decide, by decide, by decide⟩
  em := fun x hx => by simp [queued, charging, setBay1, served, makePresent, inRun, State.reset, State.powerUp,
    Limits.powerUp, State.updBay, State.updPort] at hx
  safe := ⟨by decide, by decide, by decide, by decide, by decide, by decide, by decide⟩
  active := by decide
  tariff := by decide
  items := by
    intro item h
    cases item with
    | bayCount => exact absurd rfl h
    | chanEnable c | chanEdge c | chanFilter c | chanWeight c => cases c <;> decide
    | presenceLimit p => cases p <;> decide
    | _ => decide

/-- One state and step for StepKeepsPlantLaws, StepKeepsEpochOrder, StepKeepsReceiptLaws, StepKeepsSessionLaws,
StepKeepsBindings and StepKeepsGrantLaws: all the laws hold and the step answers a next state. -/
theorem witness_StepKeepsLaws :
    (queued.TablesOk ∧ queued.SiteOk ∧ queued.PlantOk ∧ queued.EpochsOk ∧ queued.ReceiptsOk ∧ queued.SessionsOk ∧
      queued.VouchersOk ∧ queued.BindingsOk ∧ queued.GrantsOk ∧ queued.LimitsOk) ∧
    step queued = .next (after (.bayReports .network 7 (report1 1 1 220 1005)) charging) :=
  ⟨⟨⟨charging_tablesOk.bays, charging_tablesOk.grants, charging_tablesOk.count, charging_tablesOk.copy,
      charging_tablesOk.pointer⟩, ⟨by decide, by decide, by decide⟩,
      ⟨by decide, by decide, by decide, by decide, by decide⟩, ⟨by decide, by decide, by decide⟩,
      ⟨by decide, by decide, by decide, by decide, by decide, by decide⟩,
      ⟨charging_sessionsOk.size, charging_sessionsOk.distinct, charging_sessionsOk.numbers, charging_sessionsOk.next,
        charging_sessionsOk.balanced⟩,
      ⟨by decide, by decide, by decide, by decide⟩,
      ⟨charging_bindingsOk.naming, charging_bindingsOk.named, charging_bindingsOk.bound, charging_bindingsOk.order,
        charging_bindingsOk.pending, charging_bindingsOk.full, charging_bindingsOk.list, charging_bindingsOk.waiting,
        charging_bindingsOk.held, charging_bindingsOk.configure⟩,
      ⟨fun b hb => ⟨(charging_grantsOk.each b hb).range, (charging_grantsOk.each b hb).idle⟩, charging_grantsOk.budget,
        charging_grantsOk.before, charging_grantsOk.lapsed, charging_grantsOk.configure⟩, queued_limitsOk⟩, rfl⟩

/-- Bay 1's session with the voucher that it claimed. -/
def claimedSession : Session :=
  { openSession with voucher := some 7731, creditGranted := 3480, creditLeft := 3480 }

/-- Bay 1's session names a CLAIMED voucher, and its report waits in the queue. -/
def claimedQueued : State := { credited .claimed with pending := queued.pending }

/-- The premises of StepKeepsBindings with a bound voucher. -/
theorem witness_StepKeepsBindings :
    claimedQueued.TablesOk ∧ claimedQueued.SessionsOk ∧ claimedQueued.ReceiptsOk ∧ claimedQueued.BindingsOk ∧
    claimedQueued.VouchersOk ∧ claimedQueued.ClaimsOk ∧
    step claimedQueued = .next (after (.bayReports .network 7 (report1 1 1 220 1005)) (credited .claimed)) := by
  have only : ∀ x ∈ claimedQueued.st.sessions, x = claimedSession := by decide
  have mine : claimedSession ∈ claimedQueued.st.sessions := by decide
  have bays : ∀ b ∈ claimedQueued.bt.bays, b.session = none ∨ (b.session = some 1 ∧ b.number = 1) := by decide
  refine ⟨⟨by decide, by decide, by decide, by decide, by decide⟩,
    ⟨by decide, by decide, by decide, by decide, fun x hx => ?_⟩,
    ⟨by decide, by decide, by decide, by decide, by decide, by decide⟩,
    ⟨by decide, fun b hb n hn => ?_, fun x hx _ => ?_, by decide, fun n => ?_, by decide, by decide, fun k => ?_, by decide,
      by decide⟩,
    ⟨by decide, by decide, by decide, by decide⟩, ⟨fun v hv n hn => ?_, fun x hx _ m hm => ?_, by decide⟩, rfl⟩
  · rw [only x hx]
    exact ⟨by decide, by decide, by decide, by decide, by decide, by decide, by decide⟩
  · rcases bays b hb with h | ⟨h, h1⟩
    · simp [h] at hn
    · have : n = 1 := by simpa [h] using hn.symm
      exact ⟨claimedSession, mine, this.symm, rfl, h1.symm⟩
  · rw [only x hx]; decide
  · have h : ∀ x ∈ claimedQueued.st.sessions, x.state ≠ .pendingReceipt := by decide
    have e : claimedQueued.st.pendingOrder = [] := by decide
    exact ⟨fun hn => by simp [e] at hn, fun ⟨x, hx, _, hs⟩ => absurd hs (h x hx)⟩
  · have h : ∀ b ∈ claimedQueued.bt.bays, b.state ≠ .waiting := by decide
    have e : claimedQueued.bt.slotWait = [] := by decide
    exact ⟨fun hk => by simp [e] at hk, fun ⟨b, hb, _, hs⟩ => absurd hs (h b hb)⟩
  · have e : ∀ v ∈ claimedQueued.vl.vouchers, v = voucherOf .claimed := by decide
    rw [e v hv] at hn ⊢
    have : n = 1 := by simpa [voucherOf] using hn.symm
    exact ⟨claimedSession, mine, this.symm, rfl, rfl, rfl, rfl, rfl⟩
  · rw [only x hx] at hm ⊢
    have : m = 7731 := by simpa [claimedSession] using hm.symm
    exact ⟨voucherOf .claimed, by decide, this.symm, rfl⟩

end Sys2Proof.Tests
end

section
/-! What the laws of the plant and of the limit sets read of a state, and the operations that leave all of it alone. -/

namespace Sys2Proof.Machine

/-! ### States that the laws cannot tell apart -/

/-- Two states agree in everything that the laws of the tables, the site, the plant and the limit sets read: only the
contents of the bay and grant records, the sessions, vouchers, receipts and ports, and the counters may differ. -/
structure State.Alike (s t : State) : Prop where
  site : t.site = s.site
  cfg : t.cfg = s.cfg
  straps : t.straps = s.straps
  copy : t.rd.size1 = s.rd.size1 ∧ t.rd.size0 = s.rd.size0
  schedule : t.tb.nextTick.isSome = s.tb.nextTick.isSome
  limits : t.ls = s.ls
  soc : t.mi.soc = s.mi.soc
  window : t.dg.window.isSome = s.dg.window.isSome
  history : t.dg.history = s.dg.history
  bays : t.bt.bays.map (·.number) = s.bt.bays.map (·.number)
  allocator : t.al = s.al
  grants : t.gt.grants.map (·.bay) = s.gt.grants.map (·.bay)
  outputs : t.so = s.so

variable {s t u : State}

theorem State.Alike.refl (s : State) : s.Alike s :=
  ⟨rfl, rfl, rfl, ⟨rfl, rfl⟩, rfl, rfl, rfl, rfl, rfl, rfl, rfl, rfl, rfl⟩

theorem State.Alike.trans (h : s.Alike t) (h' : t.Alike u) : s.Alike u where
  site := h'.site.trans h.site
  cfg := h'.cfg.trans h.cfg
  straps := h'.straps.trans h.straps
  copy := ⟨h'.copy.1.trans h.copy.1, h'.copy.2.trans h.copy.2⟩
  schedule := h'.schedule.trans h.schedule
  limits := h'.limits.trans h.limits
  soc := h'.soc.trans h.soc
  window := h'.window.trans h.window
  history := h'.history.trans h.history
  bays := h'.bays.trans h.bays
  allocator := h'.allocator.trans h.allocator
  grants := h'.grants.trans h.grants
  outputs := h'.outputs.trans h.outputs

/-- An alternative is taken into a state alike whichever way it goes. -/
theorem State.Alike.ite {c : Prop} [Decidable c] (h : s.Alike t) (h' : s.Alike u) : s.Alike (if c then t else u) := by
  split
  · exact h
  · exact h'

/-- Sessions, vouchers, receipts, ports, judged limits, the reset held and the queue of commands are not read. -/
theorem State.alike_records (s : State) (jl : JudgedLimits) (held : Option HeldReset) (st : SessionTable) (vl : VoucherList)
    (rq : ReceiptQueue) (sp : StationPorts) (pending : List Instr) :
    s.Alike { s with jl := jl, held := held, st := st, vl := vl, rq := rq, sp := sp, pending := pending } :=
  ⟨rfl, rfl, rfl, ⟨rfl, rfl⟩, rfl, rfl, rfl, rfl, rfl, rfl, rfl, rfl, rfl⟩

/-- The counters are not read, only whether the round schedule runs. -/
theorem State.alike_time (s : State) (jl : JudgedLimits) (tb : TimeBase) (h : tb.nextTick.isSome = s.tb.nextTick.isSome) :
    s.Alike { s with jl := jl, tb := tb } :=
  ⟨rfl, rfl, rfl, ⟨rfl, rfl⟩, h, rfl, rfl, rfl, rfl, rfl, rfl, rfl, rfl⟩

/-- Of the metering inputs only the SoC is read. -/
theorem State.alike_metering (s : State) (mi : Metering) (h : mi.soc = s.mi.soc) : s.Alike { s with mi := mi } :=
  ⟨rfl, rfl, rfl, ⟨rfl, rfl⟩, rfl, rfl, h, rfl, rfl, rfl, rfl, rfl, rfl⟩

/-- Of the running window only its presence is read. -/
theorem State.setWindow_alike (s : State) (w : Option Window) (h : w.isSome = s.dg.window.isSome) :
    s.Alike (s.setWindow w) :=
  ⟨rfl, rfl, rfl, ⟨rfl, rfl⟩, rfl, rfl, rfl, h, rfl, rfl, rfl, rfl, rfl⟩

/-- Of the bay records only the numbers are read. -/
theorem State.alike_bays (s : State) (bt : BayTable) (h : bt.bays.map (·.number) = s.bt.bays.map (·.number)) :
    s.Alike { s with bt := bt } :=
  ⟨rfl, rfl, rfl, ⟨rfl, rfl⟩, rfl, rfl, rfl, rfl, rfl, h, rfl, rfl, rfl⟩

/-- Of the grant records only the bays are read. -/
theorem State.alike_grants (s : State) (gt : GrantTable) (h : gt.grants.map (·.bay) = s.gt.grants.map (·.bay)) :
    s.Alike { s with gt := gt } :=
  ⟨rfl, rfl, rfl, ⟨rfl, rfl⟩, rfl, rfl, rfl, rfl, rfl, rfl, rfl, h, rfl⟩

variable (s)

theorem State.updPort_alike (p : Port) (f : PortState → PortState) : s.Alike (s.updPort p f) :=
  s.alike_records s.jl s.held s.st s.vl s.rq _ s.pending

theorem State.raise_alike (p : Port) (n : Notice) (a b : Detail) : s.Alike (s.raise p n a b) :=
  s.updPort_alike p _

theorem State.respond_alike (p : Port) (tag code : Byte) (x : Status) (r : Reply) : s.Alike (s.respond p tag code x r) :=
  s.updPort_alike p _

theorem State.updSession_alike (n : Nat) (f : Session → Session) : s.Alike (s.updSession n f) :=
  s.alike_records s.jl s.held _ s.vl s.rq s.sp s.pending

theorem State.updVoucher_alike (n : Nat) (f : Voucher → Voucher) : s.Alike (s.updVoucher n f) :=
  s.alike_records s.jl s.held s.st _ s.rq s.sp s.pending

theorem State.mapBays_alike (f : BayRec → BayRec) (h : ∀ b, (f b).number = b.number) : s.Alike (s.mapBays f) :=
  s.alike_bays _ (by simp [Function.comp_def, h])

theorem State.updBay_alike (k : Nat) (f : BayRec → BayRec) (h : ∀ b, (f b).number = b.number) : s.Alike (s.updBay k f) :=
  s.mapBays_alike (fun b => if b.number = k then f b else b) fun b => by split <;> simp [h]

theorem State.mapGrants_alike (f : GrantRec → GrantRec) (h : ∀ x, (f x).bay = x.bay) : s.Alike (s.mapGrants f) :=
  s.alike_grants _ (by simp [Function.comp_def, h])

theorem State.updGrant_alike (k : Nat) (f : GrantRec → GrantRec) (h : ∀ x, (f x).bay = x.bay) : s.Alike (s.updGrant k f) :=
  s.mapGrants_alike (fun x => if x.bay = k then f x else x) fun x => by split <;> simp [h]

/-! ### Grants -/

theorem GrantRec.move_bay (now : Word) (g a : Nat) (x : GrantRec) : (x.move now g a).bay = x.bay := by
  unfold GrantRec.move
  split
  · rfl
  · split <;> rfl

theorem State.takeEpoch_alike (f : Nat → Bool) : s.Alike (s.takeEpoch f) :=
  (s.alike_grants { s.gt with
    eg := nextEpoch s.gt.eg
    grants := s.gt.grants.map fun (x : GrantRec) => if f x.bay then { x with e := nextEpoch s.gt.eg } else x }
    (by simp only [List.map_map]; congr 1; funext x; simp only [Function.comp_apply]; split <;> rfl)).trans
  (State.raise_alike _ _ _ _ _)

theorem State.returnGrants_alike : s.Alike s.returnGrants :=
  (s.takeEpoch_alike s.isInService).trans (State.mapGrants_alike _
    (fun (x : GrantRec) => if s.isInService x.bay && decide (x.g ≠ x.a) then { x with mismatch := some s.tb.ms } else x)
    fun x => by split <;> rfl)

theorem State.outGrant_alike (k : Nat) : s.Alike (s.outGrant k) := by
  have h : s.Alike (s.updGrant k GrantRec.clear) := s.updGrant_alike k _ fun _ => rfl
  exact h.ite (h.trans (State.takeEpoch_alike _ _))

theorem State.lowerByReport_alike (k n : Nat) : s.Alike (s.lowerByReport k n) :=
  ((s.updGrant_alike k _ fun x => x.move_bay _ _ _).trans (State.takeEpoch_alike _ _)).ite (.refl s)

theorem State.expireOverdue_alike (k : Nat) : s.Alike (s.expireOverdue k) :=
  (s.updGrant_alike k (fun x => { x with overdue := true }) fun _ => rfl).ite (.refl s)

theorem State.raiseOne_alike (l : List (Nat × Nat)) (cb k : Nat) : s.Alike (s.raiseOne l cb k) := by
  unfold State.raiseOne
  split
  · exact .refl s
  · dsimp only
    split
    · split
      · exact s.updGrant_alike k _ fun x => x.move_bay _ _ _
      · exact .refl s
    · exact .refl s

theorem State.raiseAll_alike (l : List (Nat × Nat)) (cb : Nat) (ks : List Nat) :
    s.Alike (ks.foldl (State.raiseOne l cb) s) := by
  induction ks generalizing s with
  | nil => exact .refl s
  | cons k ks ih => exact (s.raiseOne_alike l cb k).trans (ih _)

theorem reduceGrant_bay (now : Word) (l : List (Nat × Nat)) (x : GrantRec) : (reduceGrant now l x).bay = x.bay := by
  unfold reduceGrant
  split
  · split
    · exact x.move_bay _ _ _
    · rfl
  · rfl

theorem State.issueTargets_alike (l : List (Nat × Nat)) (cb : Nat) : s.Alike (s.issueTargets l cb) := by
  have passes : s.Alike (s.issuePasses l cb) :=
    (s.mapGrants_alike _ (reduceGrant_bay _ _)).trans (State.raiseAll_alike _ _ _ _)
  have marked := passes.trans (State.mapGrants_alike _ (markDeferred l) fun _ => rfl)
  exact (marked.trans (State.takeEpoch_alike _ _)).ite marked

theorem ackGrant_bay (now : Word) (e : Nat) (x : GrantRec) : (ackGrant now e x).bay = x.bay := by
  unfold ackGrant
  split
  · exact x.move_bay _ _ _
  · rfl

/-! ### Frames and the lapse of a port -/

theorem State.onReturn_alike (p : Port) : s.Alike (s.onReturn p) := by
  cases p with
  | network => exact s.returnGrants_alike.ite (.refl s)
  | till => exact s.alike_records s.jl s.held s.st s.vl _ s.sp s.pending
  | energy => exact .refl s

theorem State.frameValid_alike (p : Port) : s.Alike (s.frameValid p) :=
  have h := s.updPort_alike p fun x => { x with presence := .present, timer := some s.tb.ms }
  h.ite (h.trans (State.onReturn_alike _ p))

theorem State.arrive_alike (p : Port) : s.Alike (s.arrive p) :=
  (s.updPort_alike p _).trans (State.frameValid_alike _ p)

theorem State.countOverrun_alike (p : Port) : s.Alike (s.countOverrun p) := by
  obtain ⟨sp, h⟩ := s.countOverrun_frame p
  rw [h]
  exact s.alike_records s.jl s.held s.st s.vl s.rq sp s.pending

theorem State.discardFrame_alike (p : Port) : s.Alike (s.discardFrame p) := by
  obtain ⟨sp, h⟩ := s.discardFrame_frame p
  rw [h]
  exact s.alike_records s.jl s.held s.st s.vl s.rq sp s.pending

theorem State.unknownFrame_alike (p : Port) (tag code : Byte) : s.Alike (s.unknownFrame p tag code) := by
  obtain ⟨sp, h⟩ := s.unknownFrame_frame p tag code
  rw [h]
  exact s.alike_records s.jl s.held s.st s.vl s.rq sp s.pending

theorem State.clearNotice_alike (p : Port) (x : Option (Nat × Notice)) : s.Alike (s.clearNotice p x) := by
  obtain ⟨sp, h⟩ := s.clearNotice_frame p x
  rw [h]
  exact s.alike_records s.jl s.held s.st s.vl s.rq sp s.pending

theorem BayRec.lapse_number (minute : Nat) (b : BayRec) : (b.lapse minute).number = b.number := by
  unfold BayRec.lapse
  split <;> rfl

theorem State.lapseTreatment_alike : s.Alike s.lapseTreatment :=
  (s.mapBays_alike _ (BayRec.lapse_number _)).trans
    (State.mapGrants_alike _ _ fun x => by split <;> rfl)

theorem State.expirePresence_alike (p : Port) : s.Alike (s.expirePresence p) := by
  have h : s.Alike (s.lapsePort p) := s.updPort_alike p _
  unfold State.expirePresence
  refine State.Alike.ite ?_ (.refl s)
  cases p with
  | network => exact (h.trans (State.lapseTreatment_alike _)).ite h
  | till => exact h
  | energy => exact h

/-! ### Sessions, receipts and vouchers -/

theorem State.openSession_alike (k base : Nat) (x : BayState) (m : Option Nat) : s.Alike (s.openSession k base x m) :=
  (s.alike_records s.jl s.held _ s.vl s.rq s.sp s.pending).trans (State.updBay_alike _ k _ fun _ => rfl)

theorem State.admitHead_alike : s.Alike s.admitHead := by
  unfold State.admitHead
  split
  · exact .refl s
  · next k rest _ =>
    have h : s.Alike { s with bt := { s.bt with slotWait := rest } } := s.alike_bays _ rfl
    exact (h.trans (State.openSession_alike _ _ _ _ _)).ite (h.trans (State.openSession_alike _ _ _ _ _))

theorem State.receiptSession_alike (n : Nat) : s.Alike (s.receiptSession n) := by
  unfold State.receiptSession
  split
  · exact .refl s
  · next x _ =>
    have built : s.Alike ((s.buildReceipt x).dropSession n) := s.alike_records s.jl s.held _ s.vl _ s.sp s.pending
    exact built.trans (State.admitHead_alike _)

theorem State.askPlace_alike (n : Nat) : s.Alike (s.askPlace n) :=
  (s.receiptSession_alike n).ite (s.alike_records s.jl s.held _ s.vl s.rq s.sp s.pending)

theorem State.fillPlace_alike : s.Alike s.fillPlace := by
  unfold State.fillPlace
  refine State.Alike.ite ?_ (.refl s)
  split
  · exact .refl s
  · exact (s.alike_records s.jl s.held _ s.vl s.rq s.sp s.pending).trans (State.receiptSession_alike _ _)

theorem State.fillPlaces_alike (k : Nat) : s.Alike (State.fillPlaces k s) := by
  induction k generalizing s with
  | zero => exact .refl s
  | succ k ih => exact s.fillPlace_alike.trans (ih _)

theorem State.settle_alike : s.Alike s.settle :=
  (s.alike_records s.jl s.held s.st s.vl _ s.sp s.pending).trans (State.fillPlaces_alike _ _)

theorem State.takeReceipt_alike (p : Port) (n : Nat) : s.Alike (s.takeReceipt p n) :=
  (s.alike_records s.jl s.held s.st s.vl _ s.sp s.pending).trans (State.settle_alike _)

theorem State.releaseTillHold_alike : s.Alike s.releaseTillHold :=
  ((s.alike_records s.jl s.held s.st s.vl _ s.sp s.pending).trans (State.settle_alike _)).ite (.refl s)

theorem State.dropVoucher_alike (v : Option Nat) : s.Alike (s.dropVoucher v) := by
  obtain ⟨vl, h⟩ := s.dropVoucher_frame v
  rw [h]
  exact s.alike_records s.jl s.held s.st vl s.rq s.sp s.pending

theorem State.withdrawCredit_alike (n : Option Nat) : s.Alike (s.withdrawCredit n) := by
  obtain ⟨st, h⟩ := s.withdrawCredit_frame n
  rw [h]
  exact s.alike_records s.jl s.held st s.vl s.rq s.sp s.pending

theorem State.expireVouchers_alike : s.Alike s.expireVouchers := by
  obtain ⟨vl, sp, h⟩ := s.expireVouchers_frame
  rw [h]
  exact s.alike_records s.jl s.held s.st vl s.rq sp s.pending

theorem State.closeSession_alike (k : Nat) (c : CloseCause) (x : BayState) : s.Alike (s.closeSession k c x) := by
  have unbound : s.Alike (s.updBay k fun b => { b.leave x with session := none }) := s.updBay_alike k _ fun _ => rfl
  unfold State.closeSession
  dsimp only
  split
  · exact unbound
  · exact ((unbound.trans (State.updSession_alike _ _ _)).trans (State.dropVoucher_alike _ _)).trans
      (State.askPlace_alike _ _)

/-! ### Bays -/

theorem State.setBayState_alike (k : Nat) (x : BayState) : s.Alike (s.setBayState k x) :=
  s.updBay_alike k _ fun _ => rfl

theorem State.joinWait_alike (k : Nat) : s.Alike (s.joinWait k) :=
  s.alike_bays _ rfl

theorem State.leaveWait_alike (k : Nat) : s.Alike (s.leaveWait k) :=
  s.alike_bays _ rfl

theorem State.passReading_alike (n : Option Nat) (r dt m : Nat) : s.Alike (s.passReading n r dt m) := by
  obtain ⟨st, h⟩ := s.passReading_frame n r dt m
  rw [h]
  exact s.alike_records s.jl s.held st s.vl s.rq s.sp s.pending

theorem State.reportCharging_alike (b : BayRec) (x : ReportEntry) (dt : Nat) : s.Alike (s.reportCharging b x dt) :=
  have h := s.passReading_alike b.session x.reading dt x.connectorMax
  h.ite (h.trans (State.closeSession_alike _ _ _ _))

theorem State.reportAction_alike (b : BayRec) (x : ReportEntry) (dt : Nat) : s.Alike (s.reportAction b x dt) := by
  unfold State.reportAction
  split
  · exact ((s.openSession_alike _ _ _ _).ite
      ((s.setBayState_alike _ _).trans (State.joinWait_alike _ _))).ite (.refl s)
  · exact State.Alike.ite (.refl s) ((s.leaveWait_alike _).trans (State.setBayState_alike _ _ _))
  · exact s.reportCharging_alike b x dt
  · exact State.Alike.ite (.refl s) (s.setBayState_alike _ _)
  · exact (s.updBay_alike x.bay (BayRec.leave .active) fun _ => rfl).trans (State.reportCharging_alike _ b x dt)
  · exact .refl s

theorem State.refreshBay_alike (b : BayRec) (x : ReportEntry) : s.Alike (s.refreshBay b x) :=
  have h := s.updBay_alike x.bay (BayRec.refresh s.tb.ms x) fun _ => rfl
  State.Alike.ite (h.trans (State.lowerByReport_alike _ _ _)) h

theorem State.takeEntry_alike (x : ReportEntry) : s.Alike (s.takeEntry x) := by
  unfold State.takeEntry
  split
  · exact .refl s
  · exact (s.refreshBay_alike _ x).trans (State.reportAction_alike _ _ x _)

theorem takeEntries_alike (l : List ReportEntry) : s.Alike (takeEntries l s).1 := by
  induction l generalizing s with
  | nil => exact .refl s
  | cons x l ih => exact (s.takeEntry_alike x).trans (ih _)

theorem State.takeOut_alike (b : BayRec) : s.Alike (s.takeOut b) := by
  have close := (s.closeSession_alike b.number .outOfService .outOfService).trans (State.outGrant_alike _ b.number)
  have idle := (s.setBayState_alike b.number .outOfService).trans (State.outGrant_alike _ b.number)
  unfold State.takeOut
  split
  · exact close
  · exact close
  · exact ((s.leaveWait_alike _).trans (State.setBayState_alike _ _ _)).trans (State.outGrant_alike _ _)
  · exact idle
  · exact idle
  · exact .refl s

theorem State.takeIn_alike (b : BayRec) : s.Alike (s.takeIn b) := by
  unfold State.takeIn
  split
  · exact s.setBayState_alike _ _
  all_goals exact .refl s

theorem State.abandon_alike : s.Alike s.abandon := by
  have all (ks : List Nat) (s : State) : s.Alike (ks.foldl State.abandonBay s) := by
    induction ks generalizing s with
    | nil => exact .refl s
    | cons k ks ih => exact (s.closeSession_alike k _ _).trans (ih _)
  exact (all _ s).ite (.refl s)

theorem State.markStale_alike : s.Alike s.markStale :=
  s.mapBays_alike _ fun b => by split <;> rfl

theorem State.markStaleBay_alike (k : Nat) : s.Alike (s.markStaleBay k) :=
  s.updBay_alike k _ fun b => by split <;> rfl

theorem BayRec.age_number (limit length target : Nat) (b : BayRec) : (b.age limit length target).number = b.number := by
  simp only [BayRec.age, apply_ite BayRec.number, ite_self]

theorem State.ageBays_alike (l : List (Nat × Nat)) : s.Alike (s.ageBays l) :=
  s.mapBays_alike _ fun b => by
    split
    · exact b.age_number _ _ _
    · rfl

/-! ### Metering, the window and the counters -/

theorem State.updChan_alike (c : Channel) (f : ChannelState → ChannelState) : s.Alike (s.updChan c f) :=
  s.alike_metering _ rfl

theorem State.setBound_alike (b : BoundLine) (x : BoundState) : s.Alike (s.setBound b x) := by
  cases b <;> exact s.alike_metering _ rfl

theorem State.expireSilence_alike (c : Channel) : s.Alike (s.expireSilence c) :=
  ((s.updChan_alike c _).trans (State.raise_alike _ _ _ _ _)).ite (.refl s)

theorem State.importEnergy_alike (n : Nat) : s.Alike (s.importEnergy n) :=
  (s.setWindow_alike _ (by simp)).ite (.refl s)

theorem State.tickGuard_alike : s.Alike s.tickGuard := by
  unfold State.tickGuard
  split
  · exact .refl s
  · next w h => exact State.Alike.ite (.refl s) (s.setWindow_alike _ (by simp [h]))

theorem State.advanceMs_alike : s.Alike s.advanceMs :=
  s.alike_time _ _ rfl

theorem State.comeToTick_alike : s.Alike s.comeToTick :=
  (s.alike_time (s.jl.atMillisecond s.cfg) { s.tb.advance with advanceMade := true } rfl).ite (.refl s)

theorem State.countMinute_alike : s.Alike s.countMinute :=
  (s.alike_time (s.jl.atMinute s.cfg) s.tb.monotonicMinute rfl).ite (.refl s)

theorem TimeBase.clockMinute_nextTick (x : TimeBase) : x.clockMinute.nextTick = x.nextTick := by
  unfold TimeBase.clockMinute
  split <;> rfl

theorem State.scheduleNext_alike : s.Alike s.scheduleNext :=
  s.alike_time s.jl _ (by simp)

/-- Of the Retained Domain only the copy of the SIZE pair is read. -/
theorem State.loseMarker_alike : s.Alike { s with rd := { s.rd with marker := false } } :=
  ⟨rfl, rfl, rfl, ⟨rfl, rfl⟩, rfl, rfl, rfl, rfl, rfl, rfl, rfl, rfl, rfl⟩

theorem State.lapsePresent_alike (p : Port) : s.Alike (s.lapsePresent p) :=
  (s.updPort_alike p _).ite (.refl s)

end Sys2Proof.Machine
end

section
/-! A law that alike states share is kept by every command once it is kept by the few operations that change what it reads. -/

namespace Sys2Proof.Machine

/-! ### The blocks of requests that leave the laws' fields alone -/

variable (s : State)

/-- A request without payload is refused, or handed on. -/
theorem bareRequest_alike (payload : List Byte) (h : Handler) (hh : s.Alike (h s).1) :
    s.Alike (bareRequest payload h s).1 := by
  cases payload with
  | nil => exact hh
  | cons b l => exact .refl s

theorem handlePing_alike (p : Port) (payload : List Byte) : s.Alike (handlePing p payload s).1 := by
  unfold handlePing
  split
  · exact .refl s
  · exact State.Alike.ite (s.updPort_alike p _) (.refl s)

theorem handleReadNotice_alike (p : Port) (payload : List Byte) : s.Alike (handleReadNotice p payload s).1 := by
  unfold handleReadNotice
  split
  · exact .refl s
  · exact s.clearNotice_alike p _

theorem handleSetNoticeMask_alike (p : Port) (payload : List Byte) : s.Alike (handleSetNoticeMask p payload s).1 := by
  unfold handleSetNoticeMask
  split
  · exact .refl s
  · next m _ => exact s.updPort_alike p fun x => { x with mask := m &&& fullMask p }

theorem handleReadConfig_alike (payload : List Byte) : s.Alike (handleReadConfig payload s).1 :=
  bareRequest_alike s payload _ (.refl s)

theorem handleReadSite_alike (payload : List Byte) : s.Alike (handleReadSite payload s).1 :=
  bareRequest_alike s payload _ (s.alike_metering _ rfl)

theorem handleReadWindows_alike (payload : List Byte) : s.Alike (handleReadWindows payload s).1 :=
  bareRequest_alike s payload _ (.refl s)

theorem handleReadChannels_alike (payload : List Byte) : s.Alike (handleReadChannels payload s).1 :=
  bareRequest_alike s payload _ (.refl s)

theorem readNumber_alike (n : Nat) : s.Alike (readNumber n s).1 := by
  unfold readNumber
  split <;> exact .refl s

theorem handleReadSession_alike (body : Body SessionSelector) : s.Alike (handleReadSession body s).1 := by
  unfold handleReadSession
  split
  · exact .refl s
  · exact .refl s
  · split
    · exact .refl s
    · exact readNumber_alike s _
  · split
    · split
      · exact .refl s
      · exact readNumber_alike s _
    · exact .refl s

theorem handleBayReports_alike (payload : List Byte) : s.Alike (handleBayReports payload s).1 := by
  unfold handleBayReports
  split
  · exact .refl s
  · split
    · exact .refl s
    · split
      · exact .refl s
      · exact takeEntries_alike s _

theorem handleAckGrants_alike (payload : List Byte) : s.Alike (handleAckGrants payload s).1 := by
  unfold handleAckGrants
  split
  · exact .refl s
  · split
    · exact .refl s
    · exact State.Alike.ite (.refl s) (s.alike_grants _ (by simp [Function.comp_def, ackGrant_bay]))

theorem handleEndSession_alike (payload : List Byte) : s.Alike (handleEndSession payload s).1 := by
  unfold handleEndSession
  split
  · exact .refl s
  · split
    · exact .refl s
    · split
      · exact .refl s
      · split
        · exact .refl s
        · split
          · exact s.closeSession_alike _ _ _
          · exact .refl s

theorem handleSetBayService_alike (payload : List Byte) : s.Alike (handleSetBayService payload s).1 := by
  unfold handleSetBayService
  split
  · exact .refl s
  · split
    · exact .refl s
    · split
      · exact .refl s
      · next b _ => exact (s.takeIn_alike b).ite (s.takeOut_alike b)

theorem handleClaimVoucher_alike (body : Body ClaimFields) : s.Alike (handleClaimVoucher body s).1 := by
  unfold handleClaimVoucher
  split
  · exact .refl s
  · split
    · exact .refl s
    · split
      · exact .refl s
      · split
        · exact .refl s
        · split
          · exact .refl s
          · split
            · exact .refl s
            · exact (s.updVoucher_alike _ _).trans (State.updSession_alike _ _ _)

theorem handleReadBay_alike (payload : List Byte) : s.Alike (handleReadBay payload s).1 := by
  unfold handleReadBay
  split
  · exact .refl s
  · split
    · exact .refl s
    · split <;> exact .refl s

theorem handlePostVoucher_alike (body : Body PostFields) : s.Alike (handlePostVoucher body s).1 := by
  unfold handlePostVoucher
  split
  · exact .refl s
  · split
    · exact .refl s
    · split
      · exact .refl s
      · split
        · exact .refl s
        · split
          · exact .refl s
          · exact s.alike_records s.jl s.held s.st _ s.rq s.sp s.pending

theorem handleWithdrawVoucher_alike (body : Body Word) : s.Alike (handleWithdrawVoucher body s).1 := by
  unfold handleWithdrawVoucher
  split
  · exact .refl s
  · split
    · exact .refl s
    · split
      · exact s.dropVoucher_alike (some _)
      · exact (s.updVoucher_alike _ _).trans (State.withdrawCredit_alike _ _)
      · exact .refl s

theorem handleReadVoucher_alike (body : Body Word) : s.Alike (handleReadVoucher body s).1 := by
  unfold handleReadVoucher
  split
  · exact .refl s
  · split <;> exact .refl s

theorem handlePeekReceipt_alike (p : Port) (payload : List Byte) : s.Alike (handlePeekReceipt p payload s).1 :=
  bareRequest_alike s payload _ (by split <;> exact .refl s)

theorem handleTakeReceipt_alike (p : Port) (body : Body Word) : s.Alike (handleTakeReceipt p body s).1 := by
  unfold handleTakeReceipt
  split
  · exact .refl s
  · split
    · exact .refl s
    · split
      · exact s.takeReceipt_alike p _
      · exact .refl s

/-! ### Laws kept by the operations on the site, the limits and the plant -/

/-- A law that alike states share and that every operation keeps which changes the site state, the configuration, the limit
sets, the window history, the SoC, the Allocator or the duties, or resets the part. -/
structure Lasting (P : State → Prop) : Prop where
  alike : ∀ {s t : State}, s.Alike t → P s → P t
  mergeLimits : ∀ (s : State) (q : LimitFields), carriesNone q = false → P s →
    P { s with ls := { s.ls with pend := (mergeLimits s.cfg.batteryCapacity s.ls q).1 } }
  takeTariff : ∀ (s : State) (l : List BandFields), tariffOk (l.map bandOf) = true → P s →
    P { s with ls := { s.ls with pend := { s.ls.pend with tariff := some (l.map bandOf), waiting := true } } }
  takeConfig : ∀ (s : State) (l : List (ConfigItem × Nat)), s.isRun = false → P s →
    P (s.takeConfig (s.cfg.storeAll (clampPairs s.straps.bayCount l)))
  commit : ∀ s : State, P s → P s.commit
  configure : ∀ s : State, P s → P s.configure
  appendHistory : ∀ (s : State) (x : HistoryEntry), P s →
    P { s with dg := { s.dg with history := appendHistory s.dg.history x } }
  setSoc : ∀ (s : State) (mi : Metering), mi.soc ≤ s.cfg.batteryCapacity ∨ mi.soc ≤ s.mi.soc → P s → P { s with mi := mi }
  tickLimits : ∀ s : State, P s → P s.tickLimits
  round : ∀ s : State, s.isRun = true → P s → P s.round
  transfer : ∀ s : State, P s → P { s with so := { bset := s.so.bset.transfer, clim := s.so.clim.transfer } }
  powerUp : ∀ (straps : Straps) (kind : Nat) (pending : List Instr), P (State.powerUp straps kind pending)
  assertPowerUp : ∀ s : State, P s → P s.assertPowerUp
  assertPin : ∀ s : State, P s → P s.assertPin
  restart : ∀ (s : State) (straps : Straps), s.rd.isValid straps = true → P s → P (s.restart straps)

namespace Lasting

variable {s} {P : State → Prop} (K : Lasting P)
include K

/-- A request keeps the law if its block does. -/
theorem request {ports : List Port} {p : Port} {tag code : Byte} {h : Handler} (hh : ∀ s, P s → P (h s).1) (hs : P s) :
    P (takeRequest ports p tag code h s) := by
  have arrived := K.alike (s.arrive_alike p) hs
  unfold takeRequest
  split
  · exact hs
  · split
    · exact K.alike (s.countOverrun_alike p) hs
    · dsimp only
      split
      · exact K.alike (State.respond_alike _ _ _ _ _ _) (hh _ arrived)
      · exact K.alike (State.respond_alike _ _ _ _ _ _) arrived

/-- A request whose block leaves the state alike keeps the law. -/
theorem quietRequest {ports : List Port} {p : Port} {tag code : Byte} {h : Handler} (hh : ∀ s : State, s.Alike (h s).1)
    (hs : P s) : P (takeRequest ports p tag code h s) :=
  K.request (fun s => K.alike (hh s)) hs

omit K in
/-- An event keeps the law if its effect does. -/
theorem event {f : State → State} (hf : P s → P (f s)) (hs : P s) : P (unlessHeld f s) := by
  unfold unlessHeld
  split
  · exact hs
  · exact hf hs

/-- An event whose effect leaves the state alike keeps the law. -/
theorem quietEvent {f : State → State} (hf : s.Alike (f s)) (hs : P s) : P (unlessHeld f s) :=
  event (K.alike hf) hs

/-! The requests with an effect on the laws' fields -/

theorem handleWriteConfig (body : Body (List ConfigPair)) (s : State) (hs : P s) : P (handleWriteConfig body s).1 := by
  unfold Machine.handleWriteConfig
  split
  · exact hs
  · split
    · exact hs
    · split
      · exact hs
      · next pairs _ hrun => exact K.takeConfig s pairs (by simpa using hrun) hs

theorem handleCommitSite (payload : List Byte) (s : State) (hs : P s) : P (handleCommitSite payload s).1 := by
  cases payload with
  | cons b l => exact hs
  | nil =>
    simp only [Machine.handleCommitSite, bareRequest]
    split
    · exact hs
    · split
      · exact hs
      · exact K.commit s hs

theorem handleEnterConfigure (payload : List Byte) (s : State) (hs : P s) : P (handleEnterConfigure payload s).1 := by
  cases payload with
  | cons b l => exact hs
  | nil =>
    simp only [Machine.handleEnterConfigure, bareRequest]
    split
    · exact hs
    · split
      · exact K.configure s hs
      · exact hs

theorem handleSetLimits (body : Body LimitFields) (s : State) (hs : P s) : P (handleSetLimits body s).1 := by
  unfold Machine.handleSetLimits
  split
  · exact hs
  · next q =>
    split
    · exact hs
    · next hq => exact K.mergeLimits s q (by simpa using hq) hs

theorem handleSetTariff (body : Body (List BandFields)) (s : State) (hs : P s) : P (handleSetTariff body s).1 := by
  unfold Machine.handleSetTariff
  split
  · exact hs
  · next l =>
    split
    · next hl => exact K.takeTariff s l hl hs
    · exact hs

theorem recordWindow (w : Window) (n : Nat) (cut : Bool) (hs : P s) : P (s.recordWindow w n cut) := by
  have recorded := K.appendHistory s (historyEntry w n cut) hs
  unfold State.recordWindow
  dsimp only
  split
  · exact K.alike (State.raise_alike _ _ _ _ _) recorded
  · exact recorded

omit K in
/-- A recorded window stays in place. -/
theorem recordWindow_window (w : Window) (n : Nat) (cut : Bool) : (s.recordWindow w n cut).dg.window = s.dg.window := by
  unfold State.recordWindow
  dsimp only
  split <;> rfl

theorem clockCut (before : State) (hs : P s) : P (s.clockCut before) := by
  unfold State.clockCut
  split
  · exact hs
  · next w hw =>
    exact K.alike (State.setWindow_alike _ _ (by rw [recordWindow_window, hw]; rfl)) (K.recordWindow w _ true hs)

theorem endWindow (hs : P s) : P s.endWindow := by
  unfold State.endWindow
  split
  · exact hs
  · next w hw =>
    split
    · exact K.alike (State.setWindow_alike _ _ (by rw [recordWindow_window, hw]; rfl)) (K.recordWindow w _ false hs)
    · exact hs

theorem handleSetClock (payload : List Byte) (s : State) (hs : P s) : P (handleSetClock payload s).1 := by
  unfold Machine.handleSetClock
  split
  · exact hs
  · next minute seconds _ =>
    have set := K.alike (s.alike_time s.jl (s.tb.setClock minute seconds) rfl) hs
    dsimp only
    split
    · exact K.clockCut s set
    · exact set

/-! The events with an effect on the laws' fields -/

theorem handPulse (c : Channel) (hs : P s) : P (s.handPulse c) := by
  cases c with
  | gridIn => exact K.alike (s.importEnergy_alike _) hs
  | gridOut => exact hs
  | canopy => exact hs
  | battIn =>
    simp only [State.handPulse, State.chargeSoc]
    split
    · exact K.setSoc s _ (.inl le_rfl) hs
    · next h => exact K.setSoc s _ (.inl (by simpa using h)) hs
  | battOut => exact K.setSoc s _ (.inr (Nat.sub_le _ _)) hs

theorem sampleChannel (c : Channel) (level : Bool) (hs : P s) : P (s.sampleChannel c level) := by
  have upd (f : ChannelState → ChannelState) {t : State} (ht : P t) : P (t.updChan c f) := K.alike (t.updChan_alike c f) ht
  unfold State.sampleChannel
  dsimp only
  split
  · split
    · split
      · exact K.handPulse c (upd _ (upd _ (upd _ hs)))
      · exact upd _ (upd _ hs)
    · exact upd _ hs
  · exact hs

theorem assertBound (b : BoundLine) (hs : P s) : P (s.assertBound b) := by
  refine K.alike (State.raise_alike _ _ _ _ _) (K.setSoc s _ (.inl ?_) hs)
  cases b
  · exact le_rfl
  · exact Nat.zero_le _

theorem sampleBound (b : BoundLine) (level : Bool) (hs : P s) : P (s.sampleBound b level) := by
  unfold State.sampleBound
  dsimp only
  split
  · split
    · exact K.assertBound b (K.alike (s.setBound_alike b _) hs)
    · exact K.alike (s.setBound_alike b _) hs
  · exact K.alike (s.setBound_alike b _) hs

theorem endPeriod (hs : P s) : P s.endPeriod := by
  unfold State.endPeriod
  split
  · exact K.transfer _ (K.alike (s.alike_time s.jl { s.tb with advanceMade := false } rfl) hs)
  · exact K.transfer _ (K.alike s.advanceMs_alike hs)

theorem tick (hrun : s.isRun = true) (hs : P s) : P s.tick := by
  have come := K.alike s.comeToTick_alike hs
  have limited := K.tickLimits _ come
  have ready := K.alike (State.markStale_alike _) (K.alike (State.tickGuard_alike _) limited)
  refine K.alike (State.scheduleNext_alike _) (K.round _ ?_ ready)
  obtain ⟨jl, tb, h1⟩ := s.comeToTick_frame
  obtain ⟨ls, sp, h2⟩ := s.comeToTick.tickLimits_frame
  obtain ⟨dg, h3⟩ := s.comeToTick.tickLimits.tickGuard_frame
  rw [State.markStale, h3, h2, h1]
  exact hrun

omit K in
/-- A round tick is taken in RUN alone. -/
theorem isRun_of_tick (h : (s.tickDue || s.tickComing) = true) : s.isRun = true := by
  simp only [State.tickDue, State.tickComing, Bool.or_eq_true, Bool.and_eq_true] at h
  rcases h with ⟨hrun, _⟩ | ⟨⟨⟨hrun, _⟩, _⟩, _⟩ <;> exact hrun

theorem release (straps : Straps) (hs : P s) : P (s.release straps) := by
  unfold State.release
  split
  · exact hs
  · exact K.powerUp _ _ _
  · split
    · next hv => exact K.restart s straps hv hs
    · exact K.powerUp _ _ _

/-! ### Every command -/

/-- Every command has a next state, and the law holds there. -/
theorem exec (i : Instr) (hs : P s) : ∃ t, exec i s = .next t ∧ P t := by
  cases i with
  | ping p tag payload => exact ⟨_, rfl, K.quietRequest (handlePing_alike · p payload) hs⟩
  | readNotice p tag payload => exact ⟨_, rfl, K.quietRequest (handleReadNotice_alike · p payload) hs⟩
  | setNoticeMask p tag payload => exact ⟨_, rfl, K.quietRequest (handleSetNoticeMask_alike · p payload) hs⟩
  | writeConfig p tag body => exact ⟨_, rfl, K.request (K.handleWriteConfig body) hs⟩
  | readConfig p tag payload => exact ⟨_, rfl, K.quietRequest (handleReadConfig_alike · payload) hs⟩
  | commitSite p tag payload => exact ⟨_, rfl, K.request (K.handleCommitSite payload) hs⟩
  | enterConfigure p tag payload => exact ⟨_, rfl, K.request (K.handleEnterConfigure payload) hs⟩
  | setLimits p tag body => exact ⟨_, rfl, K.request (K.handleSetLimits body) hs⟩
  | setTariff p tag body => exact ⟨_, rfl, K.request (K.handleSetTariff body) hs⟩
  | setClock p tag payload => exact ⟨_, rfl, K.request (K.handleSetClock payload) hs⟩
  | readSite p tag payload => exact ⟨_, rfl, K.quietRequest (handleReadSite_alike · payload) hs⟩
  | readWindows p tag payload => exact ⟨_, rfl, K.quietRequest (handleReadWindows_alike · payload) hs⟩
  | readChannels p tag payload => exact ⟨_, rfl, K.quietRequest (handleReadChannels_alike · payload) hs⟩
  | readSession p tag body => exact ⟨_, rfl, K.quietRequest (handleReadSession_alike · body) hs⟩
  | bayReports p tag payload => exact ⟨_, rfl, K.quietRequest (handleBayReports_alike · payload) hs⟩
  | readGrants p tag payload => exact ⟨_, rfl, K.quietRequest State.Alike.refl hs⟩
  | ackGrants p tag payload => exact ⟨_, rfl, K.quietRequest (handleAckGrants_alike · payload) hs⟩
  | endSession p tag payload => exact ⟨_, rfl, K.quietRequest (handleEndSession_alike · payload) hs⟩
  | setBayService p tag payload => exact ⟨_, rfl, K.quietRequest (handleSetBayService_alike · payload) hs⟩
  | claimVoucher p tag body => exact ⟨_, rfl, K.quietRequest (handleClaimVoucher_alike · body) hs⟩
  | readBay p tag payload => exact ⟨_, rfl, K.quietRequest (handleReadBay_alike · payload) hs⟩
  | postVoucher p tag body => exact ⟨_, rfl, K.quietRequest (handlePostVoucher_alike · body) hs⟩
  | withdrawVoucher p tag body => exact ⟨_, rfl, K.quietRequest (handleWithdrawVoucher_alike · body) hs⟩
  | readVoucher p tag body => exact ⟨_, rfl, K.quietRequest (handleReadVoucher_alike · body) hs⟩
  | peekReceipt p tag payload => exact ⟨_, rfl, K.quietRequest (handlePeekReceipt_alike · p payload) hs⟩
  | takeReceipt p tag body => exact ⟨_, rfl, K.quietRequest (handleTakeReceipt_alike · p body) hs⟩
  | frameDiscard p => exact ⟨_, rfl, K.quietEvent (s.discardFrame_alike p) hs⟩
  | overrun p => exact ⟨_, rfl, K.quietEvent ((s.countOverrun_alike p).ite (.refl s)) hs⟩
  | unknownCommand p tag code => exact ⟨_, rfl, K.quietEvent (s.unknownFrame_alike p tag code) hs⟩
  | responseEnd p => exact ⟨_, rfl, K.quietEvent (s.updPort_alike p _) hs⟩
  | monotonicMinuteEvent => exact ⟨_, rfl, K.quietEvent s.countMinute_alike hs⟩
  | clockMinuteEvent =>
    exact ⟨_, rfl, K.quietEvent (s.alike_time s.jl s.tb.clockMinute (by rw [TimeBase.clockMinute_nextTick])) hs⟩
  | roundTick =>
    refine ⟨_, rfl, event (fun hs => ?_) hs⟩
    split
    · next hrun => exact K.tick (isRun_of_tick hrun) hs
    · exact hs
  | staleMark k => exact ⟨_, rfl, K.quietEvent ((s.markStaleBay_alike k).ite (.refl s)) hs⟩
  | periodEnd => exact ⟨_, rfl, event K.endPeriod hs⟩
  | presenceExpiry p => exact ⟨_, rfl, K.quietEvent (s.expirePresence_alike p) hs⟩
  | silenceExpiry c => exact ⟨_, rfl, K.quietEvent (s.expireSilence_alike c) hs⟩
  | overdueExpiry k => exact ⟨_, rfl, K.quietEvent (s.expireOverdue_alike k) hs⟩
  | windowEnd => exact ⟨_, rfl, event K.endWindow hs⟩
  | voucherExpiry => exact ⟨_, rfl, K.quietEvent s.expireVouchers_alike hs⟩
  | abandonment => exact ⟨_, rfl, K.quietEvent s.abandon_alike hs⟩
  | tillHoldRelease => exact ⟨_, rfl, K.quietEvent s.releaseTillHold_alike hs⟩
  | pulse c =>
    refine ⟨_, rfl, event (fun hs => ?_) hs⟩
    split
    · exact K.sampleChannel c _ hs
    · exact hs
  | inactiveLevelChange c level =>
    refine ⟨_, rfl, event (fun hs => ?_) hs⟩
    split
    · exact K.sampleChannel c level hs
    · exact hs
  | boundAssertion b =>
    refine ⟨_, rfl, event (fun hs => ?_) hs⟩
    split
    · exact K.sampleBound b true hs
    · exact hs
  | boundDeassertion b =>
    refine ⟨_, rfl, event (fun hs => ?_) hs⟩
    split
    · exact K.sampleBound b false hs
    · exact hs
  | powerUpReset => exact ⟨_, rfl, K.assertPowerUp s hs⟩
  | pinReset => exact ⟨_, rfl, K.assertPin s hs⟩
  | resetRelease size1 size0 speed => exact ⟨_, rfl, K.release _ hs⟩
  | vbakFailure => exact ⟨_, rfl, K.alike s.loseMarker_alike hs⟩
  | filterSample line level =>
    refine ⟨_, rfl, event (fun hs => ?_) hs⟩
    cases line with
    | channel c => exact K.sampleChannel c level hs
    | bound b => exact K.sampleBound b level hs
  | characterReceived p byte stopLow => exact ⟨_, rfl, K.quietEvent (s.updPort_alike p _) hs⟩
  | receiverGap p => exact ⟨_, rfl, K.quietEvent (s.updPort_alike p _) hs⟩

/-- Every step keeps the law: a command taken from the queue, or an empty queue. -/
theorem step {t : State} (hs : P s) (h : step s = .next t) : P t := by
  unfold Machine.step at h
  split at h
  · cases h
    exact hs
  · next c rest _ =>
    have queued : P { s with pending := rest } := K.alike (s.alike_records s.jl s.held s.st s.vl s.rq s.sp rest) hs
    obtain ⟨u, hu, pu⟩ := K.exec c queued
    rw [hu] at h
    cases h
    exact pu

end Lasting

end Sys2Proof.Machine
end

section
/-! The configuration items: what a store leaves in each, and that a clamped store keeps them in their ranges (R169). -/

namespace Sys2Proof.Machine

/-- A value clamped into a range stays put when it is clamped again. -/
theorem clampTo_clampTo (lo hi v : Nat) : clampTo lo hi (clampTo lo hi v) = clampTo lo hi v := by
  unfold clampTo
  omega

theorem clampTo_le (lo hi v : Nat) : clampTo lo hi v ≤ hi :=
  Nat.min_le_right _ _

/-- A clamp that changes nothing tells the range. -/
theorem clampTo_eq_self {lo hi v : Nat} (hr : lo ≤ hi) : clampTo lo hi v = v ↔ lo ≤ v ∧ v ≤ hi := by
  unfold clampTo
  omega

theorem windowValue_windowValue (v : Nat) : windowValue (windowValue v) = windowValue v := by
  unfold windowValue
  split
  · rfl
  · split <;> rfl

/-- An item's clamped value lies in the item's range (R169). -/
theorem clampItem_clampItem (n : Nat) (i : ConfigItem) (v : Nat) : clampItem n i (clampItem n i v) = clampItem n i v := by
  cases i with
  | windowLength => exact windowValue_windowValue v
  | presenceLimit p => cases p <;> exact clampTo_clampTo _ _ v
  | _ => exact clampTo_clampTo _ _ v

/-- Only the bay count's range depends on the size of the part. -/
theorem clampItem_size {i : ConfigItem} (hi : i ≠ .bayCount) (m n v : Nat) : clampItem m i v = clampItem n i v := by
  cases i with
  | bayCount => exact absurd rfl hi
  | presenceLimit p => cases p <;> rfl
  | _ => rfl

theorem toNat_decide_ne_zero {v : Nat} (h : v ≤ 1) : (decide (v ≠ 0)).toNat = v := by
  rcases Nat.le_one_iff_eq_zero_or_eq_one.mp h with rfl | rfl <;> rfl

/-- A clamped value is stored as it is. -/
theorem SiteCfg.item_store_same (x : SiteCfg) (n : Nat) (i : ConfigItem) (v : Nat) :
    (x.store i (clampItem n i v)).item i = clampItem n i v := by
  cases i with
  | chanEnable c =>
    simp only [SiteCfg.item, SiteCfg.store, SiteCfg.updChan, Five.get_set_same]
    exact toNat_decide_ne_zero (clampTo_le 0 1 v)
  | chanEdge c =>
    simp only [SiteCfg.item, SiteCfg.store, SiteCfg.updChan, Five.get_set_same]
    exact toNat_decide_ne_zero (clampTo_le 0 1 v)
  | chanFilter c => simp [SiteCfg.item, SiteCfg.store, SiteCfg.updChan]
  | chanWeight c => simp [SiteCfg.item, SiteCfg.store, SiteCfg.updChan]
  | presenceLimit p => cases p <;> rfl
  | _ => rfl

/-- A change of one channel's items leaves an item as it is if it leaves that item of the channel as it is. -/
theorem SiteCfg.item_updChan (x : SiteCfg) (c : Channel) (f : ChanCfg → ChanCfg) (j : ConfigItem)
    (enabled : j ≠ .chanEnable c ∨ (f (x.chan.get c)).enabled = (x.chan.get c).enabled)
    (falling : j ≠ .chanEdge c ∨ (f (x.chan.get c)).falling = (x.chan.get c).falling)
    (filter : j ≠ .chanFilter c ∨ (f (x.chan.get c)).filter = (x.chan.get c).filter)
    (weight : j ≠ .chanWeight c ∨ (f (x.chan.get c)).weight = (x.chan.get c).weight) :
    (x.updChan c f).item j = x.item j := by
  have keep {α : Type} (g : ChanCfg → α) (d : Channel) (h : d ≠ c ∨ g (f (x.chan.get c)) = g (x.chan.get c)) :
      g ((x.updChan c f).chan.get d) = g (x.chan.get d) := by
    by_cases hd : d = c
    · subst hd
      simpa [SiteCfg.updChan] using h
    · rw [SiteCfg.updChan, Five.get_set_other _ _ hd]
  cases j with
  | chanEnable d => exact keep (·.enabled.toNat) d (by simpa using enabled.imp id (congrArg Bool.toNat))
  | chanEdge d => exact keep (·.falling.toNat) d (by simpa using falling.imp id (congrArg Bool.toNat))
  | chanFilter d => exact keep (·.filter) d (by simpa using filter)
  | chanWeight d => exact keep (·.weight) d (by simpa using weight)
  | presenceLimit p => cases p <;> rfl
  | _ => rfl

/-- A store leaves every other item as it is. -/
theorem SiteCfg.item_store_other (x : SiteCfg) {i j : ConfigItem} (h : j ≠ i) (v : Nat) :
    (x.store i v).item j = x.item j := by
  cases i with
  | chanEnable c => exact x.item_updChan c _ j (.inl h) (.inr rfl) (.inr rfl) (.inr rfl)
  | chanEdge c => exact x.item_updChan c _ j (.inr rfl) (.inl h) (.inr rfl) (.inr rfl)
  | chanFilter c => exact x.item_updChan c _ j (.inr rfl) (.inr rfl) (.inl h) (.inr rfl)
  | chanWeight c => exact x.item_updChan c _ j (.inr rfl) (.inr rfl) (.inr rfl) (.inl h)
  | presenceLimit p =>
    cases j with
    | presenceLimit q => cases p <;> cases q <;> first | rfl | exact absurd rfl h
    | _ => cases p <;> rfl
  | _ =>
    cases j with
    | presenceLimit q => cases q <;> rfl
    | _ => first | rfl | exact absurd rfl h

/-- Stores of clamped values keep an item in its range (R169). -/
theorem SiteCfg.storeAll_clamped (n : Nat) (l : List (ConfigItem × Nat)) (j : ConfigItem) (x : SiteCfg)
    (h : clampItem n j (x.item j) = x.item j) :
    clampItem n j ((x.storeAll (clampPairs n l)).item j) = (x.storeAll (clampPairs n l)).item j := by
  induction l generalizing x with
  | nil => exact h
  | cons y l ih =>
    refine ih (x.store y.1 (clampItem n y.1 y.2)) ?_
    by_cases hj : j = y.1
    · subst hj
      rw [x.item_store_same, clampItem_clampItem]
    · rw [x.item_store_other hj, h]

end Sys2Proof.Machine
end

section
/-! The laws of the tables, of the site and of the plant are kept by every step. -/

namespace Sys2Proof.Machine

variable {s t : State}

/-! ### What alike states share -/

theorem State.TablesOk.of_alike (h : s.Alike t) (hs : s.TablesOk) : t.TablesOk where
  bays := by rw [h.bays, h.straps, hs.bays]
  grants := by rw [h.grants, h.straps, hs.grants]
  count := by rw [h.cfg, h.straps]; exact hs.count
  copy := by rw [h.copy.1, h.copy.2, h.straps]; exact hs.copy
  pointer := by rw [h.allocator, h.site, h.cfg]; exact hs.pointer

theorem State.Alike.isRun (h : s.Alike t) : t.isRun = s.isRun := by
  rw [State.isRun, h.site, State.isRun]

theorem State.SiteOk.of_alike (h : s.Alike t) (hs : s.SiteOk) : t.SiteOk where
  window := by rw [h.window, h.isRun, hs.window]
  schedule := by rw [h.schedule, h.isRun, hs.schedule]
  results := by rw [h.site, h.allocator]; exact hs.results

theorem State.PlantOk.of_alike (h : s.Alike t) (hs : s.PlantOk) : t.PlantOk where
  soc := by rw [h.soc, h.cfg]; exact hs.soc
  bset := by rw [h.outputs]; exact hs.bset
  clim := by rw [h.outputs]; exact hs.clim
  windows := by rw [h.history]; exact hs.windows
  loads := by rw [h.allocator]; exact hs.loads

/-! ### The round -/

/-- The rotation pointer stays on a bay in use (R82). -/
def pointerOk (bayCount p : Nat) : Prop :=
  1 ≤ p ∧ p ≤ bayCount

theorem le_of_mem_unitBays {bayCount k pointer r : Nat} {bays : List Nat} (h : k ∈ unitBays bayCount bays pointer r) :
    k ≤ bayCount := by
  have := List.mem_of_mem_take h
  simp only [List.mem_append, List.mem_filter, List.mem_range] at this
  omega

theorem movePointer_ok {bayCount pointer : Nat} {units : List Nat} (hn : 1 ≤ bayCount) (hp : pointerOk bayCount pointer)
    (hu : ∀ k ∈ units, k ≤ bayCount) : pointerOk bayCount (movePointer bayCount pointer units) := by
  unfold movePointer
  split
  · exact hp
  · next k hk =>
    have := hu k (List.mem_of_getLast? hk)
    unfold pointerOk
    split <;> omega

theorem shareClass_pointer {bayMin bayCount : Nat} (hn : 1 ≤ bayCount) (fuel b pointer : Nat) (l : List Candidate)
    (hp : pointerOk bayCount pointer) : pointerOk bayCount (shareClass bayMin bayCount fuel b pointer l).pointer := by
  induction fuel generalizing b pointer l with
  | zero => exact hp
  | succ fuel ih =>
    unfold shareClass
    dsimp only
    split
    · exact hp
    · split
      · exact ih _ _ _ hp
      · split
        · exact ih _ _ _ hp
        · exact movePointer_ok hn hp fun k hk => le_of_mem_unitBays hk

theorem shareBudget_pointer {bayMin bayCount cfree pointer : Nat} (hn : 1 ≤ bayCount) (l : List Candidate)
    (hp : pointerOk bayCount pointer) : pointerOk bayCount (shareBudget bayMin bayCount cfree pointer l).pointer :=
  shareClass_pointer hn _ _ _ _ (shareClass_pointer hn _ _ _ _ hp)

/-- The record of a round takes its pointer and its load history from the figures, and the pointer is on a bay in use. -/
theorem State.figures_pointer (hn : 1 ≤ s.cfg.bayCount) (hp : pointerOk s.cfg.bayCount s.al.rotation) :
    pointerOk s.cfg.bayCount s.figures.shared.pointer :=
  shareBudget_pointer hn _ hp

/-- A list that drops its oldest entry when full stays within its size (R40, R70). -/
theorem length_append_full {α : Type} {n : Nat} {l : List α} (x : α) (hn : 1 ≤ n) (h : l.length ≤ n) :
    ((if l.length < n then l else l.drop 1) ++ [x]).length ≤ n := by
  split
  · simp
    omega
  · simp
    omega

/-- Up to the write of the duties and the record, a round leaves the state alike. -/
theorem State.handTargets_alike (s : State) (f : RoundFigures) : s.Alike (s.handTargets f) :=
  (s.issueTargets_alike _ _).ite (.refl s)

theorem State.reportShortfall_alike (s : State) (f : RoundFigures) : s.Alike (s.reportShortfall f) :=
  (s.raise_alike _ _ _ _).ite (.refl s)

/-- A round is a state alike whose duties are written and whose round is recorded (R89, R108, R110). -/
theorem State.round_eq (s : State) : ∃ u sumC limit, s.Alike u ∧
    s.round = (u.roundDuties s.figures limit).recordRound (roundRecord s s.figures sumC) :=
  ⟨_, _, _, ((s.reportShortfall_alike _).trans (State.ageBays_alike _ _)).trans (State.handTargets_alike _ _), rfl⟩

theorem bsetDuty_le {bchgMax bdisMax charge discharge : Nat} (hc : charge ≤ bchgMax) :
    bsetDuty bchgMax bdisMax charge discharge ≤ 1000 := by
  unfold bsetDuty
  split
  · have : 500 * charge / bchgMax ≤ 500 := Nat.div_le_of_le_mul (by rw [Nat.mul_comm]; exact Nat.mul_le_mul_right _ hc)
    omega
  · split
    · exact (Nat.sub_le _ _).trans (by decide)
    · decide

theorem climDuty_le (exportCap canopyRated canopyLimit : Nat) : climDuty exportCap canopyRated canopyLimit ≤ 1000 := by
  unfold climDuty
  split
  · exact le_rfl
  · split
    · exact le_rfl
    · exact Nat.min_le_left _ _

theorem State.figures_charge_le (s : State) : s.figures.charge ≤ s.cfg.bchgMax := by
  show s.planCharge _ _ _ _ ≤ _
  unfold State.planCharge
  split
  · exact Nat.min_le_left _ _
  · exact Nat.zero_le _

theorem State.not_run (h : s.isRun = false) : s.site ≠ .run := by
  simpa [State.isRun] using h

/-! ### The two moves of the site state -/

/-- COMMIT SITE leaves a state alike to the one before with the site in RUN, the limits taken over, a window begun, the
Allocator set back and the schedule started (R171). -/
theorem State.commit_alike (s : State) : ∃ w tick, State.Alike { s with
    site := .run
    tb := { s.tb with nextTick := some tick }
    ls := s.commitLimits.ls
    dg := { s.dg with window := some w }
    al := s.commitAllocator.al } s.commit := by
  have records (b : BayRec) : (if s.cfg.bayCount < b.number then BayRec.fresh b.number else b).number = b.number := by
    split <;> rfl
  let u := ({ s with site := .run } : State).freshenBays.zeroEpochs.commitLimits
  have lapses : (u.openFirstWindow.commitAllocator.startSchedule).Alike s.commit :=
    (((State.lapseTreatment_alike _).trans (State.lapsePresent_alike _ .network)).trans
      (State.lapsePresent_alike _ .till)).trans (State.lapsePresent_alike _ .energy)
  refine ⟨u.newWindow u.partLength, s.tb.ms + BitVec.ofNat 32 s.periodMs, State.Alike.trans ?_ lapses⟩
  exact ⟨rfl, rfl, rfl, ⟨rfl, rfl⟩, rfl, rfl, rfl, rfl, rfl, (s.mapBays_alike _ records).bays, rfl,
    (s.mapGrants_alike (fun x => { x with e := 0 }) fun _ => rfl).grants, rfl⟩

/-- A window that ends may leave its entry in the history (R40). -/
theorem State.recordWindow_history (s : State) (w : Window) (n : Nat) (cut : Bool) :
    (s.recordWindow w n cut).dg.history = Machine.appendHistory s.dg.history (historyEntry w n cut) := by
  unfold State.recordWindow
  dsimp only
  split <;> rfl

/-- ENTER CONFIGURE leaves no window; the history may have gained the cut window's entry (R42). -/
theorem State.configureCut_eq (s : State) : ∃ (h : List HistoryEntry) (sp : StationPorts),
    (h = s.dg.history ∨ ∃ x, h = Machine.appendHistory s.dg.history x) ∧
      s.configureCut = { s with dg := { window := none, history := h }, sp := sp } := by
  unfold State.configureCut
  split
  · next hw => exact ⟨s.dg.history, s.sp, .inl rfl, by rw [← hw]⟩
  · next w hw =>
    obtain ⟨dg, sp, h⟩ := s.recordWindow_frame w (s.cutLength w) true
    have recorded := s.recordWindow_history w (s.cutLength w) true
    rw [h] at recorded ⊢
    exact ⟨dg.history, sp, .inr ⟨_, recorded⟩, rfl⟩

/-- ENTER CONFIGURE leaves a state alike to the one before with the site in CONFIGURE, no window, schedule or round results,
and the idle duties next (R172, R112). -/
theorem State.configure_alike (s : State) : ∃ h : List HistoryEntry,
    (h = s.dg.history ∨ ∃ x, h = Machine.appendHistory s.dg.history x) ∧ State.Alike { s with
      site := .configure
      tb := { s.tb with nextTick := none }
      dg := { window := none, history := h }
      al := { s.al with loadHistory := [], results := none }
      so := { bset := s.so.bset.write 500, clim := s.so.clim.write 1000 } } s.configure := by
  obtain ⟨h, sp, hh, e⟩ := s.configureCut_eq
  refine ⟨h, hh, ?_⟩
  unfold State.configure
  rw [e]
  exact ⟨rfl, rfl, rfl, ⟨rfl, rfl⟩, rfl, rfl, rfl, rfl, rfl, rfl, rfl,
    (s.mapGrants_alike GrantRec.clear fun _ => rfl).grants, rfl⟩

/-! ### Power-up and the pin reset -/

theorem Straps.bayCount_pos (x : Straps) : 1 ≤ x.bayCount := by
  unfold Straps.bayCount
  split <;> decide

theorem State.powerUp_tablesOk (straps : Straps) (kind : Nat) (pending : List Instr) :
    (State.powerUp straps kind pending).TablesOk where
  bays := by simp [State.powerUp, Function.comp_def, BayRec.fresh]
  grants := by simp [State.powerUp, Function.comp_def, GrantRec.fresh]
  count := ⟨straps.bayCount_pos, le_rfl⟩
  copy := ⟨rfl, rfl⟩
  pointer := ⟨le_rfl, fun h => nomatch h⟩

theorem State.powerUp_siteOk (straps : Straps) (kind : Nat) (pending : List Instr) :
    (State.powerUp straps kind pending).SiteOk :=
  ⟨rfl, rfl, fun _ => rfl⟩

theorem State.powerUp_plantOk (straps : Straps) (kind : Nat) (pending : List Instr) :
    (State.powerUp straps kind pending).PlantOk where
  soc := le_rfl
  bset := ⟨Nat.le_of_ble_eq_true rfl, fun _ h => nomatch h⟩
  clim := ⟨Nat.le_of_ble_eq_true rfl, fun _ h => nomatch h⟩
  windows := Nat.zero_le _
  loads := Nat.zero_le _

/-- A valid retention has the SIZE pair of the new straps, so the part keeps its bay count (R173). -/
theorem bayCount_of_isValid {straps : Straps} (hv : s.rd.isValid straps = true) (hs : s.TablesOk) :
    s.rd.size1 = straps.size1 ∧ s.rd.size0 = straps.size0 ∧ straps.bayCount = s.straps.bayCount := by
  simp only [RetainedDomain.isValid, Bool.and_eq_true, beq_iff_eq] at hv
  obtain ⟨⟨_, h1⟩, h0⟩ := hv
  exact ⟨h1, h0, by simp only [Straps.bayCount, ← h1, ← h0, hs.copy.1, hs.copy.2]⟩

/-- The lapse treatment of a restart in RUN leaves the restored state alike. -/
theorem State.restart_alike (s : State) (straps : Straps) : (s.restore straps).Alike (s.restart straps) :=
  (State.lapseTreatment_alike _).ite (.refl _)

/-! ### The three laws last -/

theorem tablesOk_lasting : Lasting State.TablesOk where
  alike := State.TablesOk.of_alike
  mergeLimits s q _ hs := ⟨hs.bays, hs.grants, hs.count, hs.copy, hs.pointer⟩
  takeTariff s l _ hs := ⟨hs.bays, hs.grants, hs.count, hs.copy, hs.pointer⟩
  takeConfig s l hrun hs := by
    have h := SiteCfg.storeAll_clamped s.straps.bayCount l .bayCount s.cfg
      ((clampTo_eq_self s.straps.bayCount_pos).2 hs.count)
    exact ⟨hs.bays, hs.grants, (clampTo_eq_self s.straps.bayCount_pos).1 h, hs.copy, hs.pointer.1, fun hr =>
      absurd hr (State.not_run hrun)⟩
  commit s hs := by
    obtain ⟨w, tick, h⟩ := s.commit_alike
    refine State.TablesOk.of_alike h ⟨hs.bays, hs.grants, hs.count, hs.copy, ?_⟩
    have hn := hs.count.1
    have hp := hs.pointer.1
    simp only [State.commitAllocator]
    split <;> omega
  configure s hs := by
    obtain ⟨l, _, h⟩ := s.configure_alike
    exact State.TablesOk.of_alike h ⟨hs.bays, hs.grants, hs.count, hs.copy, hs.pointer.1, fun hr => nomatch hr⟩
  appendHistory s x hs := ⟨hs.bays, hs.grants, hs.count, hs.copy, hs.pointer⟩
  setSoc s mi _ hs := ⟨hs.bays, hs.grants, hs.count, hs.copy, hs.pointer⟩
  tickLimits s hs := by
    obtain ⟨ls, sp, h⟩ := s.tickLimits_frame
    rw [h]
    exact ⟨hs.bays, hs.grants, hs.count, hs.copy, hs.pointer⟩
  round s hrun hs := by
    obtain ⟨u, sumC, limit, hu, h⟩ := s.round_eq
    have hu' := hs.of_alike hu
    have hp := s.figures_pointer hs.count.1 ⟨hs.pointer.1, hs.pointer.2 (s.isRun_iff.1 hrun)⟩
    rw [h]
    exact ⟨hu'.bays, hu'.grants, hu'.count, hu'.copy, hp.1, fun _ => hu.cfg ▸ hp.2⟩
  transfer s hs := ⟨hs.bays, hs.grants, hs.count, hs.copy, hs.pointer⟩
  powerUp := State.powerUp_tablesOk
  assertPowerUp s hs :=
    have h := State.powerUp_tablesOk s.straps 1 s.pending
    ⟨h.bays, h.grants, h.count, hs.copy, h.pointer⟩
  assertPin s hs := ⟨hs.bays, hs.grants, hs.count, hs.copy, hs.pointer⟩
  restart s straps hv hs := by
    obtain ⟨h1, h0, hn⟩ := bayCount_of_isValid hv hs
    refine State.TablesOk.of_alike (s.restart_alike straps) ⟨?_, ?_, ?_, ⟨h1, h0⟩, hs.pointer⟩
    · simpa [State.restore, Function.comp_def, BayRec.restart, hn] using hs.bays
    · simpa [State.restore, Function.comp_def, GrantRec.restart, hn] using hs.grants
    · simpa [State.restore, hn] using hs.count

theorem siteOk_lasting : Lasting State.SiteOk where
  alike := State.SiteOk.of_alike
  mergeLimits s q _ hs := ⟨hs.window, hs.schedule, hs.results⟩
  takeTariff s l _ hs := ⟨hs.window, hs.schedule, hs.results⟩
  takeConfig s l _ hs := ⟨hs.window, hs.schedule, hs.results⟩
  commit s _ := by
    obtain ⟨w, tick, h⟩ := s.commit_alike
    exact State.SiteOk.of_alike h ⟨rfl, rfl, fun hr => nomatch hr⟩
  configure s _ := by
    obtain ⟨l, _, h⟩ := s.configure_alike
    exact State.SiteOk.of_alike h ⟨rfl, rfl, fun _ => rfl⟩
  appendHistory s x hs := ⟨hs.window, hs.schedule, hs.results⟩
  setSoc s mi _ hs := ⟨hs.window, hs.schedule, hs.results⟩
  tickLimits s hs := by
    obtain ⟨ls, sp, h⟩ := s.tickLimits_frame
    rw [h]
    exact ⟨hs.window, hs.schedule, hs.results⟩
  round s hrun hs := by
    obtain ⟨u, sumC, limit, hu, h⟩ := s.round_eq
    have hu' := hs.of_alike hu
    rw [h]
    exact ⟨hu'.window, hu'.schedule, fun hc => absurd (hu.site.symm.trans hc) (by simp [s.isRun_iff.1 hrun])⟩
  transfer s hs := ⟨hs.window, hs.schedule, hs.results⟩
  powerUp := State.powerUp_siteOk
  assertPowerUp s _ := ⟨rfl, rfl, fun _ => rfl⟩
  assertPin s hs := ⟨hs.window, hs.schedule, hs.results⟩
  restart s straps _ hs := by
    refine State.SiteOk.of_alike (s.restart_alike straps) ⟨?_, ?_, fun _ => rfl⟩
    · show (if s.isRun then s.dg.window else none).isSome = s.isRun
      split
      · exact hs.window
      · next hr => simpa using hr
    · show (if s.isRun then some (BitVec.ofNat 32 s.periodMs) else none).isSome = s.isRun
      split
      · next hr => exact hr.symm
      · next hr => simpa using hr

/-- A transfer makes a next duty current and leaves none next (R107). -/
theorem Output.transfer_eq (o : Output) : o.transfer = ⟨o.next.getD o.current, none⟩ := by
  unfold Output.transfer
  split
  · next d h => rw [h]; rfl
  · next h => cases o; simp_all

/-- A transfer keeps the duties within a bound. -/
theorem Output.transfer_le {o : Output} {n : Nat} (h : o.current ≤ n ∧ ∀ d, o.next = some d → d ≤ n) :
    o.transfer.current ≤ n ∧ ∀ d, o.transfer.next = some d → d ≤ n := by
  rw [o.transfer_eq]
  refine ⟨?_, fun d hd => nomatch hd⟩
  cases hn : o.next with
  | none => exact h.1
  | some d => exact h.2 d hn

/-- A written duty within the bound keeps the duties within it. -/
theorem Output.write_le {o : Output} {n v : Nat} (h : o.current ≤ n ∧ ∀ d, o.next = some d → d ≤ n) (hv : v ≤ n) :
    (o.write v).current ≤ n ∧ ∀ d, (o.write v).next = some d → d ≤ n :=
  ⟨h.1, fun _ hd => Option.some.inj hd ▸ hv⟩

theorem plantOk_lasting : Lasting State.PlantOk where
  alike := State.PlantOk.of_alike
  mergeLimits s q _ hs := ⟨hs.soc, hs.bset, hs.clim, hs.windows, hs.loads⟩
  takeTariff s l _ hs := ⟨hs.soc, hs.bset, hs.clim, hs.windows, hs.loads⟩
  takeConfig s l _ hs := ⟨Nat.min_le_right _ _, hs.bset, hs.clim, hs.windows, hs.loads⟩
  commit s hs := by
    obtain ⟨w, tick, h⟩ := s.commit_alike
    exact State.PlantOk.of_alike h ⟨hs.soc, hs.bset, hs.clim, hs.windows, Nat.zero_le _⟩
  configure s hs := by
    obtain ⟨l, hl, h⟩ := s.configure_alike
    refine State.PlantOk.of_alike h ⟨hs.soc, Output.write_le hs.bset (by decide), Output.write_le hs.clim le_rfl, ?_,
      Nat.zero_le _⟩
    rcases hl with rfl | ⟨x, rfl⟩
    · exact hs.windows
    · exact length_append_full x (by decide) hs.windows
  appendHistory s x hs := ⟨hs.soc, hs.bset, hs.clim, length_append_full x (by decide) hs.windows, hs.loads⟩
  setSoc s mi h hs := ⟨h.elim id fun h => h.trans hs.soc, hs.bset, hs.clim, hs.windows, hs.loads⟩
  tickLimits s hs := by
    obtain ⟨ls, sp, h⟩ := s.tickLimits_frame
    rw [h]
    exact ⟨hs.soc, hs.bset, hs.clim, hs.windows, hs.loads⟩
  round s _ hs := by
    obtain ⟨u, sumC, limit, hu, h⟩ := s.round_eq
    have hu' := hs.of_alike hu
    rw [h]
    exact ⟨hu'.soc, Output.write_le hu'.bset (bsetDuty_le (hu.cfg ▸ s.figures_charge_le)),
      Output.write_le hu'.clim (climDuty_le _ _ _), hu'.windows, length_append_full _ (by decide) hs.loads⟩
  transfer s hs := ⟨hs.soc, Output.transfer_le hs.bset, Output.transfer_le hs.clim, hs.windows, hs.loads⟩
  powerUp := State.powerUp_plantOk
  assertPowerUp s _ :=
    have h := State.powerUp_plantOk s.straps 1 s.pending
    ⟨h.soc, h.bset, h.clim, h.windows, h.loads⟩
  assertPin s hs := ⟨hs.soc, ⟨hs.bset.1, fun _ h => nomatch h⟩, ⟨hs.clim.1, fun _ h => nomatch h⟩, hs.windows, hs.loads⟩
  restart s straps _ hs :=
    State.PlantOk.of_alike (s.restart_alike straps) ⟨hs.soc, ⟨Nat.le_of_ble_eq_true rfl, fun _ h => nomatch h⟩,
      ⟨Nat.le_of_ble_eq_true rfl, fun _ h => nomatch h⟩, hs.windows, Nat.zero_le _⟩

end Sys2Proof.Machine
end

section
/-! The laws of the limit sets and of the configuration items are kept by every step (R5, R8 to R12, R169). -/

namespace Sys2Proof.Machine

variable {s t : State}

/-! ### The ranges of a limit set -/

/-- The ranges of a limit set's parts other than its SoC fields (section 1.2, R8, R9). -/
structure LimitSet.PartsOk (x : LimitSet) : Prop where
  caps : x.importCap ≤ Config.maxPower ∧ x.exportCap ≤ Config.maxPower ∧ x.demandLimit ≤ Config.maxPower
  margin : x.storeMargin ≤ 5000
  bands : 1 ≤ x.tariff.length ∧ x.tariff.length ≤ 8
  rising : (x.tariff.map (·.start)).Pairwise (· < ·)
  fields : ∀ b ∈ x.tariff, b.start ≤ 1439 ∧ b.price ≤ 65535

/-- A set is in range when its parts are, its SoC fields stand in order and, in RUN, within the capacity. -/
theorem State.inRange_iff (s : State) (x : LimitSet) : s.InRange x ↔
    x.PartsOk ∧ (x.socFloor ≤ x.socTarget ∧ x.socTarget ≤ x.socCeil) ∧
      (s.site = .run → x.socCeil ≤ s.cfg.batteryCapacity) :=
  ⟨fun h => ⟨⟨h.caps, h.margin, h.bands, h.rising, h.fields⟩, h.order, h.capacity⟩,
    fun ⟨p, order, capacity⟩ => ⟨p.caps, p.margin, order, capacity, p.bands, p.rising, p.fields⟩⟩

theorem State.InRange.parts {x : LimitSet} (h : s.InRange x) : x.PartsOk :=
  ((s.inRange_iff x).1 h).1

/-- Of the state only the capacity in RUN matters to a set's range. -/
theorem State.InRange.moved {x : LimitSet} (h : s.InRange x) (hc : t.site = .run → x.socCeil ≤ t.cfg.batteryCapacity) :
    t.InRange x :=
  (t.inRange_iff x).2 ⟨h.parts, h.order, hc⟩

/-- The three clamps leave floor, target and ceiling in order and within the capacity (R8). -/
theorem clampSoc_order (capacity f c g : Nat) :
    (clampSoc capacity f c g).1 ≤ (clampSoc capacity f c g).2.2 ∧
      (clampSoc capacity f c g).2.2 ≤ (clampSoc capacity f c g).2.1 ∧ (clampSoc capacity f c g).2.1 ≤ capacity := by
  simp only [clampSoc, clampTo]
  omega

/-- A set whose parts are in range is in range once its SoC fields are clamped against the capacity (R12). -/
theorem LimitSet.PartsOk.clampSoc {x : LimitSet} (h : x.PartsOk) : s.InRange (x.clampSoc s.cfg.batteryCapacity) :=
  have hc := clampSoc_order s.cfg.batteryCapacity x.socFloor x.socCeil x.socTarget
  ⟨h.caps, h.margin, ⟨hc.1, hc.2.1⟩, fun _ => hc.2.2, h.bands, h.rising, h.fields⟩

/-! ### A take (R10) -/

/-- What holds of a taken part and of a second base holds of the part taken over that base. -/
theorem takePart_base {α : Type} {Q : α → Prop} {o : Option α} {a b : α} (ha : Q (takePart o a)) (hb : Q b) :
    Q (takePart o b) := by
  cases o with
  | none => exact hb
  | some v => exact ha

theorem takenSet_parts_base {p : PendingSet} {a b : LimitSet} (ha : (takenSet p a).PartsOk) (hb : b.PartsOk) :
    (takenSet p b).PartsOk where
  caps := ⟨takePart_base (Q := (· ≤ Config.maxPower)) ha.caps.1 hb.caps.1,
    takePart_base (Q := (· ≤ Config.maxPower)) ha.caps.2.1 hb.caps.2.1,
    takePart_base (Q := (· ≤ Config.maxPower)) ha.caps.2.2 hb.caps.2.2⟩
  margin := takePart_base (Q := (· ≤ 5000)) ha.margin hb.margin
  bands := takePart_base (Q := fun l : List Band => 1 ≤ l.length ∧ l.length ≤ 8) ha.bands hb.bands
  rising := takePart_base (Q := fun l : List Band => (l.map (·.start)).Pairwise (· < ·)) ha.rising hb.rising
  fields := takePart_base (Q := fun l : List Band => ∀ b ∈ l, b.start ≤ 1439 ∧ b.price ≤ 65535) ha.fields hb.fields

/-- The SoC parts of a Pending Set are present together (R8). -/
def PendingSet.SocTogether (p : PendingSet) : Prop :=
  p.socFloor.isSome = p.socCeil.isSome ∧ p.socCeil.isSome = p.socTarget.isSome

/-- SoC parts that are present together are all absent or all present. -/
theorem PendingSet.SocTogether.cases {p : PendingSet} (h : p.SocTogether) :
    (p.socFloor = none ∧ p.socCeil = none ∧ p.socTarget = none) ∨
      ∃ f c g, p.socFloor = some f ∧ p.socCeil = some c ∧ p.socTarget = some g := by
  obtain ⟨h1, h2⟩ := h
  cases hf : p.socFloor with
  | none =>
    rw [hf] at h1
    rw [← h1] at h2
    exact .inl ⟨rfl, Option.isSome_eq_false_iff.1 h1.symm |> Option.isNone_iff_eq_none.1,
      Option.isSome_eq_false_iff.1 h2.symm |> Option.isNone_iff_eq_none.1⟩
  | some f =>
    rw [hf] at h1
    rw [← h1] at h2
    obtain ⟨c, hc⟩ := Option.isSome_iff_exists.1 h1.symm
    obtain ⟨g, hg⟩ := Option.isSome_iff_exists.1 h2.symm
    exact .inr ⟨f, c, g, rfl, hc, hg⟩

/-- A take over one base that is in range is in range over any other base that is. -/
theorem takenSet_base {p : PendingSet} {a b : LimitSet} (hp : p.SocTogether) (ha : s.InRange (takenSet p a))
    (hb : s.InRange b) : s.InRange (takenSet p b) := by
  refine (s.inRange_iff _).2 ⟨takenSet_parts_base ha.parts hb.parts, ?_⟩
  have order := ha.order
  have capacity := ha.capacity
  rcases hp.cases with ⟨hf, hc, hg⟩ | ⟨f, c, g, hf, hc, hg⟩
  · simp only [takenSet, hf, hc, hg]
    exact ⟨hb.order, hb.capacity⟩
  · simp only [takenSet, hf, hc, hg] at order capacity ⊢
    exact ⟨order, capacity⟩

/-- A Pending Set without a part changes nothing at a take. -/
theorem takenSet_of_absent {p : PendingSet} (hl : p.hasLimits = false) (ht : p.tariff = none) (b : LimitSet) :
    takenSet p b = b := by
  simp only [PendingSet.hasLimits, Bool.or_eq_false_iff, Option.isSome_eq_false_iff, Option.isNone_iff_eq_none] at hl
  obtain ⟨⟨⟨⟨⟨⟨h1, h2⟩, h3⟩, h4⟩, h5⟩, h6⟩, h7⟩ := hl
  simp only [takenSet, h1, h2, h3, h4, h5, h6, h7, ht]
  rfl

/-! ### The Safe Set (R7) -/

theorem State.LimitsOk.itemRange (hs : s.LimitsOk) {i : ConfigItem} (hi : i ≠ .bayCount) {hi' : Nat}
    (hc : ∀ n v, clampItem n i v = clampTo 0 hi' v) : s.cfg.item i ≤ hi' := by
  rw [← hs.items i hi, hc]
  exact clampTo_le _ _ _

/-- The tariff that an EM Set gives the Safe Set is in range (R7, R9). -/
theorem safeTariff_ok {em : Option LimitSet} (h : ∀ x, em = some x → x.PartsOk) :
    (1 ≤ (safeTariff em).length ∧ (safeTariff em).length ≤ 8) ∧ ((safeTariff em).map (·.start)).Pairwise (· < ·) ∧
      ∀ b ∈ safeTariff em, b.start ≤ 1439 ∧ b.price ≤ 65535 := by
  cases em with
  | none => simp [safeTariff]
  | some x => exact ⟨(h x rfl).bands, (h x rfl).rising, (h x rfl).fields⟩

/-- The safe items are within the ranges of a limit set's parts (R169). -/
theorem State.LimitsOk.safeItems (hs : s.LimitsOk) :
    s.cfg.safeImportCap ≤ Config.maxPower ∧ s.cfg.safeDemand ≤ Config.maxPower ∧ s.cfg.safeMargin ≤ 5000 :=
  ⟨hs.itemRange (i := .safeImportCap) (by decide) fun _ _ => rfl, hs.itemRange (i := .safeDemand) (by decide) fun _ _ => rfl,
    hs.itemRange (i := .safeMargin) (hi' := Config.maxMargin) (by decide) fun _ _ => rfl⟩

/-- A rebuilt Safe Set is in range (R7). -/
theorem buildSafe_inRange {em : Option LimitSet}
    (hi : s.cfg.safeImportCap ≤ Config.maxPower ∧ s.cfg.safeDemand ≤ Config.maxPower ∧ s.cfg.safeMargin ≤ 5000)
    (h : ∀ x, em = some x → x.PartsOk) : s.InRange (buildSafe s.cfg em) :=
  have ⟨bands, rising, fields⟩ := safeTariff_ok h
  LimitSet.PartsOk.clampSoc ⟨⟨hi.1, Nat.zero_le _, hi.2.1⟩, hi.2.2, bands, rising, fields⟩

/-! ### Writes of the Pending Set -/

/-- The Pending Set that a SET LIMITS leaves (R5, R8). -/
theorem mergeLimits_fst (capacity : Nat) (ls : Limits) (q : LimitFields) :
    (mergeLimits capacity ls q).1 =
      let f := socFormed ls q
      let c := clampSoc capacity f.1 f.2.1 f.2.2
      { importCap := carried q.importCap ls.pend.importCap
        exportCap := carried q.exportCap ls.pend.exportCap
        demandLimit := carried q.demandLimit ls.pend.demandLimit
        storeMargin := (carried q.storeMargin ls.pend.storeMargin).map fun m =>
          if q.storeMargin.isSome then min m Config.maxMargin else m
        socFloor := if carriesSoc q then some c.1 else ls.pend.socFloor
        socCeil := if carriesSoc q then some c.2.1 else ls.pend.socCeil
        socTarget := if carriesSoc q then some c.2.2 else ls.pend.socTarget
        tariff := ls.pend.tariff
        waiting := true } := by
  unfold mergeLimits
  dsimp only
  split
  · simp [*]
  · simp [*]

theorem carried_isSome (r : Option Half) (p : Option Nat) : (carried r p).isSome = (r.isSome || p.isSome) := by
  cases r <;> simp [carried]

/-- A SET LIMITS that carries a field leaves a limit part present (R8). -/
theorem mergeLimits_hasLimits {capacity : Nat} {ls : Limits} {q : LimitFields} (hq : carriesNone q = false) :
    (mergeLimits capacity ls q).1.hasLimits = true := by
  rw [mergeLimits_fst]
  by_cases hsoc : carriesSoc q = true
  · simp [PendingSet.hasLimits, hsoc]
  · have soc : q.socFloor.isNone = true ∧ q.socCeil.isNone = true ∧ q.socTarget.isNone = true := by
      simpa [carriesSoc, and_assoc] using hsoc
    obtain ⟨hf, hc, hg⟩ := soc
    simp only [carriesNone, hf, hc, hg, Bool.and_true] at hq
    by_contra absent
    simp only [Bool.not_eq_true, PendingSet.hasLimits, Option.isSome_map, carried_isSome, Bool.or_eq_false_iff] at absent
    obtain ⟨⟨⟨⟨⟨⟨⟨h1, _⟩, h2, _⟩, h3, _⟩, h4, _⟩, _⟩, _⟩, _⟩ := absent
    simp [← Option.not_isSome, h1, h2, h3, h4] at hq

/-- The check of the starts is the order of R9. -/
theorem startsRise_iff (l : List Band) : startsRise l = true ↔ (l.map (·.start)).Pairwise (· < ·) := by
  rw [← List.isChain_iff_pairwise]
  induction l with
  | nil => simp [startsRise]
  | cons b l ih =>
    cases l with
    | nil => simp [startsRise]
    | cons c l => simpa [startsRise] using fun _ => ih

/-- The tables that SET TARIFF takes are those in range (R9). -/
theorem tariffOk_iff (l : List Band) : tariffOk l = true ↔
    (1 ≤ l.length ∧ l.length ≤ 8) ∧ (l.map (·.start)).Pairwise (· < ·) ∧ ∀ b ∈ l, b.start ≤ 1439 := by
  simp only [tariffOk, Bool.and_eq_true, decide_eq_true_eq, startsRise_iff, List.all_eq_true, and_assoc]

/-- A carried value keeps a taken part in range when every value that fits the field is. -/
theorem takePart_carried {n : Nat} (r : Option Half) (p : Option Nat) (b : Nat) (hn : 65535 ≤ n) (h : takePart p b ≤ n) :
    takePart (carried r p) b ≤ n := by
  cases r with
  | none => exact h
  | some v => exact (Nat.le_pred_of_lt v.isLt).trans hn

/-! ### The laws last -/

/-- Alike limit sets and configuration keep the laws, unless the site enters RUN. -/
theorem State.LimitsOk.of_same (hs : s.LimitsOk) (hsite : t.site = .run → s.site = .run) (hcfg : t.cfg = s.cfg) (hls : t.ls = s.ls) :
    t.LimitsOk := by
  have range {x : LimitSet} (h : s.InRange x) : t.InRange x := h.moved fun hr => by rw [hcfg]; exact h.capacity (hsite hr)
  refine ⟨?_, ?_, ?_, ?_, ?_, ?_, ?_, ?_⟩
  all_goals simp only [hls, hcfg]
  · exact hs.waiting
  · exact hs.together
  · exact range hs.pend
  · exact fun x hx => range (hs.em x hx)
  · exact range hs.safe
  · exact hs.active
  · exact hs.tariff
  · exact fun i hi => by rw [clampItem_size hi _ s.straps.bayCount, hs.items i hi]

/-- A write of the Pending Set keeps the laws if it leaves a part present, the waiting mark set, the SoC parts together and
the taken set in range. -/
theorem State.LimitsOk.writePend (hs : s.LimitsOk) {p : PendingSet} (hw : p.waiting = true)
    (hp : p.hasLimits = true ∨ p.tariff.isSome = true) (ht : p.SocTogether) (hr : s.InRange (takenSet p s.ls.safe)) :
    State.LimitsOk { s with ls := { s.ls with pend := p } } where
  waiting := ⟨fun _ => hp, fun _ => hw⟩
  together := ht
  pend := hr.moved hr.capacity
  em x hx := (hs.em x hx).moved (hs.em x hx).capacity
  safe := hs.safe.moved hs.safe.capacity
  active := hs.active
  tariff := hs.tariff
  items := hs.items

theorem State.LimitsOk.mergeLimits (hs : s.LimitsOk) {q : LimitFields} (hq : carriesNone q = false) :
    State.LimitsOk { s with ls := { s.ls with pend := (mergeLimits s.cfg.batteryCapacity s.ls q).1 } } := by
  have old := hs.pend
  have hm : takePart ((carried q.storeMargin s.ls.pend.storeMargin).map fun m =>
      if q.storeMargin.isSome then min m Config.maxMargin else m) s.ls.safe.storeMargin ≤ 5000 := by
    cases q.storeMargin with
    | none => simpa [carried, takenSet] using old.margin
    | some v => exact Nat.min_le_right _ _
  have parts : (takenSet (Machine.mergeLimits s.cfg.batteryCapacity s.ls q).1 s.ls.safe).PartsOk := by
    rw [mergeLimits_fst]
    exact ⟨⟨takePart_carried _ _ _ le_rfl old.caps.1, takePart_carried _ _ _ le_rfl old.caps.2.1,
      takePart_carried _ _ _ le_rfl old.caps.2.2⟩, hm, old.bands, old.rising, old.fields⟩
  refine hs.writePend (by rw [mergeLimits_fst]) (.inl (mergeLimits_hasLimits hq)) ?_ ((s.inRange_iff _).2 ⟨parts, ?_⟩)
  all_goals rw [mergeLimits_fst]
  all_goals by_cases hsoc : carriesSoc q = true
  · simp [PendingSet.SocTogether, hsoc]
  · simpa [PendingSet.SocTogether, hsoc] using hs.together
  · have order := clampSoc_order s.cfg.batteryCapacity (socFormed s.ls q).1 (socFormed s.ls q).2.1 (socFormed s.ls q).2.2
    simp only [takenSet, takePart, hsoc, if_true, Option.getD_some]
    exact ⟨⟨order.1, order.2.1⟩, fun _ => order.2.2⟩
  · simp only [takenSet, hsoc]
    exact ⟨old.order, old.capacity⟩

theorem State.LimitsOk.takeTariff (hs : s.LimitsOk) {l : List BandFields} (hl : tariffOk (l.map bandOf) = true) :
    State.LimitsOk { s with ls := { s.ls with pend :=
      { s.ls.pend with tariff := some (l.map bandOf), waiting := true } } } := by
  obtain ⟨bands, rising, starts⟩ := (tariffOk_iff _).1 hl
  have prices (b : Band) (hb : b ∈ l.map bandOf) : b.price ≤ 65535 := by
    obtain ⟨y, _, rfl⟩ := List.mem_map.1 hb
    exact Nat.le_pred_of_lt y.price.isLt
  exact hs.writePend rfl (.inr rfl) hs.together
    ⟨hs.pend.caps, hs.pend.margin, hs.pend.order, hs.pend.capacity, bands, rising, fun b hb => ⟨starts b hb, prices b hb⟩⟩

/-- The choice of the Active Set copies the EM Set or the Safe Set and names it as the source (R11). -/
theorem State.chooseActive_eq (s : State) : ∃ active source,
    s.chooseActive = { s with ls := { s.ls with active := active, source := source } } ∧
      ((source = .em ∧ s.ls.em = some active) ∨ (source = .safe ∧ active = s.ls.safe)) := by
  unfold State.chooseActive
  split
  · next x hx =>
    split
    · exact ⟨x, .em, rfl, .inl ⟨rfl, hx⟩⟩
    · exact ⟨s.ls.safe, .safe, rfl, .inr ⟨rfl, rfl⟩⟩
  · exact ⟨s.ls.safe, .safe, rfl, .inr ⟨rfl, rfl⟩⟩

/-- After a take the Pending Set holds nothing, and the EM Set and the items are in range: the rebuild of the Safe Set and
the choice of the Active Set then bring the laws (R7, R10, R11). -/
theorem State.limitsOk_rebuilt (hw : s.ls.pend.waiting = false) (hl : s.ls.pend.hasLimits = false)
    (ht : s.ls.pend.tariff = none) (hp : s.ls.pend.SocTogether) (hem : ∀ x, s.ls.em = some x → s.InRange x)
    (hi : ∀ item, item ≠ .bayCount → clampItem s.straps.bayCount item (s.cfg.item item) = s.cfg.item item)
    (hsafe : s.cfg.safeImportCap ≤ Config.maxPower ∧ s.cfg.safeDemand ≤ Config.maxPower ∧ s.cfg.safeMargin ≤ 5000) :
    s.rebuildSafe.chooseActive.LimitsOk := by
  have safe : s.InRange (buildSafe s.cfg s.ls.em) := buildSafe_inRange hsafe fun x hx => (hem x hx).parts
  obtain ⟨active, source, h, choice⟩ := s.rebuildSafe.chooseActive_eq
  rw [h]
  exact {
    waiting := by simp [State.rebuildSafe, hw, hl, ht]
    together := hp
    pend := by
      simp only [State.rebuildSafe, takenSet_of_absent hl ht]
      exact safe.moved safe.capacity
    em := fun x hx => (hem x hx).moved (hem x hx).capacity
    safe := safe.moved safe.capacity
    active := choice
    tariff := rfl
    items := hi }

theorem State.LimitsOk.tickLimits (hs : s.LimitsOk) : s.tickLimits.LimitsOk := by
  unfold State.tickLimits State.takePending
  split
  · have range {x : LimitSet} (h : s.InRange x) {ls : Limits} {sp : StationPorts} :
        State.InRange { s with ls := ls, sp := sp } x := h.moved h.capacity
    refine State.limitsOk_rebuilt rfl rfl rfl ⟨rfl, rfl⟩ (fun x hx => ?_) hs.items hs.safeItems
    have taken : s.InRange (takenSet s.ls.pend (s.ls.em.getD s.ls.safe)) := by
      cases h : s.ls.em with
      | none => exact hs.pend
      | some y => exact takenSet_base hs.together hs.pend (hs.em y h)
    rw [← Option.some.inj hx]
    exact range taken
  · next hw =>
    have absent : ¬(s.ls.pend.hasLimits = true ∨ s.ls.pend.tariff.isSome = true) := fun h => hw (hs.waiting.2 h)
    simp only [not_or, Bool.not_eq_true, Option.isSome_eq_false_iff, Option.isNone_iff_eq_none] at absent
    exact State.limitsOk_rebuilt (by simpa using hw) absent.1 absent.2 hs.together hs.em hs.items hs.safeItems

/-- The clamp at COMMIT SITE changes no part but the SoC fields, which stay present together (R12). -/
theorem PendingSet.clampSoc_eq {p : PendingSet} (hp : p.SocTogether) (capacity : Nat) :
    p.clampSoc capacity = p ∧ p.socFloor = none ∧ p.socCeil = none ∧ p.socTarget = none ∨
      ∃ f c g, p.clampSoc capacity = { p with
        socFloor := some (Machine.clampSoc capacity f c g).1
        socCeil := some (Machine.clampSoc capacity f c g).2.1
        socTarget := some (Machine.clampSoc capacity f c g).2.2 } ∧
        p.socFloor = some f ∧ p.socCeil = some c ∧ p.socTarget = some g := by
  rcases hp.cases with ⟨hf, hc, hg⟩ | ⟨f, c, g, hf, hc, hg⟩
  · exact .inl ⟨by simp [PendingSet.clampSoc, hf], hf, hc, hg⟩
  · exact .inr ⟨f, c, g, by simp [PendingSet.clampSoc, hf, hc, hg], hf, hc, hg⟩

/-- The clamp at COMMIT SITE keeps what the waiting mark tells, and the SoC parts together. -/
theorem PendingSet.clampSoc_present {p : PendingSet} (hp : p.SocTogether) (capacity : Nat) :
    (p.clampSoc capacity).waiting = p.waiting ∧ (p.clampSoc capacity).hasLimits = p.hasLimits ∧
      (p.clampSoc capacity).tariff = p.tariff ∧ (p.clampSoc capacity).SocTogether := by
  rcases p.clampSoc_eq hp capacity with ⟨e, _⟩ | ⟨f, c, g, e, hf, hc, hg⟩
  · rw [e]
    exact ⟨rfl, rfl, rfl, hp⟩
  · rw [e]
    exact ⟨rfl, by simp [PendingSet.hasLimits, hf], rfl, rfl, rfl⟩

/-- A take of the clamped Pending Set over a set in range is in range (R12). -/
theorem takenSet_clampSoc {p : PendingSet} {a b : LimitSet} (hp : p.SocTogether) (ha : (takenSet p a).PartsOk)
    (hb : s.InRange b) : s.InRange (takenSet (p.clampSoc s.cfg.batteryCapacity) b) := by
  have parts := takenSet_parts_base ha hb.parts
  rcases p.clampSoc_eq hp s.cfg.batteryCapacity with ⟨e, hf, hc, hg⟩ | ⟨f, c, g, e, _⟩
  · rw [e]
    refine (s.inRange_iff _).2 ⟨parts, ?_⟩
    simp only [takenSet, hf, hc, hg]
    exact ⟨hb.order, hb.capacity⟩
  · rw [e]
    have order := clampSoc_order s.cfg.batteryCapacity f c g
    exact ⟨parts.caps, parts.margin, ⟨order.1, order.2.1⟩, fun _ => order.2.2, parts.bands, parts.rising, parts.fields⟩

/-- The clamped sets of COMMIT SITE keep the laws, in RUN too (R12). -/
theorem State.LimitsOk.commitLimits (hs : s.LimitsOk) (hls : t.ls = s.commitLimits.ls) (hcfg : t.cfg = s.cfg) :
    t.LimitsOk := by
  have em (x : LimitSet) (hx : s.ls.em.map (LimitSet.clampSoc s.cfg.batteryCapacity) = some x) : t.InRange x := by
    obtain ⟨y, hy, rfl⟩ := Option.map_eq_some_iff.1 hx
    exact hcfg ▸ (hs.em y hy).parts.clampSoc
  have safe : t.InRange (buildSafe s.cfg (s.ls.em.map (LimitSet.clampSoc s.cfg.batteryCapacity))) := by
    have hi := hs.safeItems
    rw [← hcfg] at hi em ⊢
    exact buildSafe_inRange hi fun x hx => (em x hx).parts
  obtain ⟨hw, hl, ht, hp⟩ := PendingSet.clampSoc_present hs.together s.cfg.batteryCapacity
  refine ⟨?_, ?_, ?_, ?_, ?_, ?_, ?_, ?_⟩
  all_goals simp only [hls, hcfg, State.commitLimits]
  · rw [hw, hl, ht]
    exact hs.waiting
  · exact hp
  · have taken := takenSet_clampSoc hs.together hs.pend.parts safe
    rwa [hcfg] at taken
  · exact em
  · exact safe
  · simp
  · rfl
  · exact fun i hi => by rw [clampItem_size hi _ s.straps.bayCount, hs.items i hi]

/-- The default items lie in their ranges (section 12.2). -/
theorem SiteCfg.default_items (n : Nat) {i : ConfigItem} (hi : i ≠ .bayCount) :
    clampItem n i ((SiteCfg.default n).item i) = (SiteCfg.default n).item i := by
  cases i with
  | bayCount => exact absurd rfl hi
  | chanEnable c => cases c <;> rfl
  | chanEdge c => cases c <;> rfl
  | chanFilter c => cases c <;> rfl
  | chanWeight c => cases c <;> rfl
  | presenceLimit p => cases p <;> rfl
  | _ => rfl

theorem State.powerUp_limitsOk (straps : Straps) (kind : Nat) (pending : List Instr) :
    (State.powerUp straps kind pending).LimitsOk := by
  have safe : (State.powerUp straps kind pending).InRange LimitSet.defaultSafe := by
    refine ⟨?_, ?_, ?_, fun h => (nomatch h), ?_, ?_, ?_⟩ <;> decide
  exact {
    waiting := by simp [State.powerUp, Limits.powerUp, PendingSet.empty, PendingSet.hasLimits]
    together := ⟨rfl, rfl⟩
    pend := safe
    em := fun _ h => nomatch h
    safe := safe
    active := .inr ⟨rfl, rfl⟩
    tariff := rfl
    items := fun _ => SiteCfg.default_items _ }

theorem limitsOk_lasting : Lasting State.LimitsOk where
  alike h hs := hs.of_same (fun hr => h.site.symm.trans hr) h.cfg h.limits
  mergeLimits _ _ hq hs := hs.mergeLimits hq
  takeTariff _ _ hl hs := hs.takeTariff hl
  takeConfig s l hrun hs := by
    have range {x : LimitSet} (h : s.InRange x) : (s.takeConfig (s.cfg.storeAll (clampPairs s.straps.bayCount l))).InRange x :=
      h.moved fun hr => absurd hr (State.not_run hrun)
    exact ⟨hs.waiting, hs.together, range hs.pend, fun x hx => range (hs.em x hx), range hs.safe, hs.active, hs.tariff,
      fun i hi => SiteCfg.storeAll_clamped _ l i _ (hs.items i hi)⟩
  commit s hs := by
    obtain ⟨w, tick, h⟩ := s.commit_alike
    exact hs.commitLimits (h.limits.trans rfl) h.cfg
  configure s hs := by
    obtain ⟨l, _, h⟩ := s.configure_alike
    exact hs.of_same (fun hr => nomatch h.site.symm.trans hr) h.cfg h.limits
  appendHistory s x hs := hs.of_same id rfl rfl
  setSoc s mi _ hs := hs.of_same id rfl rfl
  tickLimits s hs := hs.tickLimits
  round s _ hs := by
    obtain ⟨bt, al, gt, so, sp, h⟩ := s.round_frame
    rw [h]
    exact hs.of_same id rfl rfl
  transfer s hs := hs.of_same id rfl rfl
  powerUp := State.powerUp_limitsOk
  assertPowerUp s _ := (State.powerUp_limitsOk s.straps 1 s.pending).of_same id rfl rfl
  assertPin s hs := hs.of_same id rfl rfl
  restart s straps _ hs :=
    have h := s.restart_alike straps
    hs.of_same (fun hr => h.site.symm.trans hr) h.cfg h.limits

/-- Settles O55. Each law is one that alike states share, so it is enough that the operations that change what it reads keep
it. -/
theorem stepKeepsPlantLaws : Obligations.StepKeepsPlantLaws :=
  ⟨fun _ _ tables site plant h => ⟨tablesOk_lasting.step tables h, siteOk_lasting.step site h, plantOk_lasting.step plant h⟩,
    fun _ _ limits h => limitsOk_lasting.step limits h⟩

end Sys2Proof.Machine
end

section
/-! What a power-up reset leaves (R173 and each chapter's reset table), and that every law of the state holds there. -/

namespace Sys2Proof.Machine

section PowerUp

variable (straps : Straps) (kind : Nat) (pending : List Instr)

/-- Every bay record has its power-up values (R66). -/
theorem State.powerUp_bays : ∀ b ∈ (State.powerUp straps kind pending).bt.bays, b = BayRec.fresh b.number := by
  intro b hb
  obtain ⟨k, _, rfl⟩ := List.mem_map.1 hb
  rfl

/-- Every grant record has its power-up values (R105). -/
theorem State.powerUp_grants : ∀ x ∈ (State.powerUp straps kind pending).gt.grants, x = GrantRec.fresh x.bay := by
  intro x hx
  obtain ⟨k, _, rfl⟩ := List.mem_map.1 hx
  rfl

/-- No bay has a grant after a power-up (R105). -/
theorem State.powerUp_grant (k : Nat) :
    ((State.powerUp straps kind pending).grant k).g = 0 ∧ ((State.powerUp straps kind pending).grant k).a = 0 := by
  unfold State.grant
  cases h : (State.powerUp straps kind pending).gt.grants.find? fun x => x.bay == k with
  | none => exact ⟨rfl, rfl⟩
  | some x =>
    rw [Option.getD_some, State.powerUp_grants straps kind pending x (List.mem_of_find?_eq_some h)]
    exact ⟨rfl, rfl⟩

theorem State.powerUp_epochsOk : (State.powerUp straps kind pending).EpochsOk :=
  ⟨Nat.zero_le _, le_rfl, fun x hx => by rw [State.powerUp_grants straps kind pending x hx]; exact le_rfl⟩

theorem State.powerUp_receiptsOk : (State.powerUp straps kind pending).ReceiptsOk where
  size := Nat.zero_le _
  owed := List.forall_mem_nil _
  rising := List.Pairwise.nil
  below := List.forall_mem_nil _
  next := ⟨le_rfl, Nat.le_of_ble_eq_true rfl⟩
  last := fun h => nomatch h

theorem State.powerUp_sessionsOk : (State.powerUp straps kind pending).SessionsOk where
  size := Nat.zero_le _
  distinct := List.Pairwise.nil
  numbers := List.forall_mem_nil _
  next := ⟨le_rfl, Nat.le_of_ble_eq_true rfl⟩
  balanced := List.forall_mem_nil _

theorem State.powerUp_vouchersOk : (State.powerUp straps kind pending).VouchersOk where
  size := Nat.zero_le _
  distinct := List.Pairwise.nil
  tills := List.forall_mem_nil _
  bound := List.forall_mem_nil _

theorem State.powerUp_bindingsOk : (State.powerUp straps kind pending).BindingsOk := by
  have fresh := State.powerUp_bays straps kind pending
  exact {
    naming := fun b hb => by rw [fresh b hb]; simp [BayRec.fresh]
    named := fun b hb n hn => by rw [fresh b hb] at hn; exact nomatch hn
    bound := List.forall_mem_nil _
    order := List.Pairwise.nil
    pending := fun n => by simp [State.powerUp]
    full := fun h => absurd rfl h
    list := List.Pairwise.nil
    waiting := fun k => by
      refine ⟨fun h => (nomatch h), fun ⟨b, hb, _, hw⟩ => ?_⟩
      rw [fresh b hb] at hw
      exact nomatch hw
    held := fun h => absurd rfl h
    configure := fun _ => rfl }

theorem State.powerUp_grantsOk : (State.powerUp straps kind pending).GrantsOk := by
  have fresh := State.powerUp_grants straps kind pending
  have zero (x : GrantRec) (hx : x ∈ (State.powerUp straps kind pending).gt.grants) : x.g = 0 ∧ x.a = 0 := by
    rw [fresh x hx]
    exact ⟨rfl, rfl⟩
  exact {
    each := fun b _ =>
      have h := State.powerUp_grant straps kind pending b.number
      ⟨.inl h.1, fun _ => h⟩
    budget := fun _ h => nomatch h
    before := fun _ x hx => (zero x hx).1
    lapsed := fun _ x hx => (zero x hx).1
    configure := fun _ => zero }

theorem State.powerUp_claimsOk : (State.powerUp straps kind pending).ClaimsOk :=
  ⟨List.forall_mem_nil _, List.forall_mem_nil _, List.forall_mem_nil _⟩

end PowerUp

/-- The Safe Set that a power-up reset leaves is the one built from the default items (R7, R15). -/
theorem buildSafe_default (n : Nat) : buildSafe (SiteCfg.default n) none = LimitSet.defaultSafe :=
  rfl

/-- Settles O2: the tables field by field, and each law as it holds after any power-up. -/
theorem resetLeavesPowerUpValues : Obligations.ResetLeavesPowerUpValues := by
  unfold Obligations.ResetLeavesPowerUpValues
  have ports (p : Port) : State.reset.port p = PortState.released p 1 0 := by cases p <;> rfl
  have lines (p : Port) : State.reset.attentionLow p = true := by cases p <;> decide
  refine ⟨rfl, rfl, rfl, rfl, rfl, rfl, rfl, rfl, rfl, rfl, rfl, rfl, rfl, rfl, rfl, rfl, rfl, (buildSafe_default _).symm, rfl,
    rfl, rfl, rfl, rfl, fun c => by cases c <;> rfl, rfl, rfl, State.powerUp_bays _ _ _, rfl, rfl,
    State.powerUp_grants _ _ _, rfl, rfl, rfl, rfl, rfl, rfl, rfl, fun p => ⟨(ports p).trans rfl, lines p⟩, ?_⟩
  exact ⟨State.powerUp_tablesOk _ _ _, State.powerUp_siteOk _ _ _, State.powerUp_plantOk _ _ _,
    State.powerUp_epochsOk _ _ _, State.powerUp_receiptsOk _ _ _, State.powerUp_sessionsOk _ _ _,
    State.powerUp_vouchersOk _ _ _, State.powerUp_bindingsOk _ _ _, State.powerUp_grantsOk _ _ _,
    State.powerUp_limitsOk _ _ _, State.powerUp_claimsOk _ _ _⟩

end Sys2Proof.Machine
end

section
/-! The writes of the Pending Set (R5, R8, R9), SET CLOCK (R3, R41) and READ SITE (R14, R90) on port E, and the band lookup
(R13). -/

namespace Sys2Proof.Machine

variable (s : State)

/-! ### A request that arrives on port E -/

/-- A frame's arrival on port E empties the receiver and restores the presence, and no block feels the return (R158). -/
theorem State.arrive_energy : s.arrive .energy = s.updPort .energy fun x =>
    { x with rx := Receiver.ready, presence := .present, timer := some s.tb.ms } := by
  unfold State.arrive State.frameValid
  dsimp only
  split <;> rfl

/-- On a ready port E a request of its own is handed to its block, whose answer is sent. -/
theorem takeRequest_energy (tag code : Byte) (h : Handler) (hr : s.Ready .energy) :
    takeRequest [.energy] .energy tag code h s =
      (h (s.arrive .energy)).1.respond .energy tag code (h (s.arrive .energy)).2.1 (h (s.arrive .energy)).2.2 :=
  takeRequest_taken s _ _ _ _ _ hr.1 hr.2 (List.mem_singleton_self _)

/-! ### SET LIMITS and SET TARIFF -/

theorem carriesNone_iff (q : LimitFields) : carriesNone q = true ↔ q = ⟨none, none, none, none, none, none, none⟩ := by
  cases q
  simp [carriesNone, and_assoc]

theorem carriesSoc_iff (q : LimitFields) :
    carriesSoc q = true ↔ q.socFloor ≠ none ∨ q.socCeil ≠ none ∨ q.socTarget ≠ none := by
  simp [carriesSoc, Option.isSome_iff_ne_none, or_assoc]

theorem carried_eq (r : Option Half) (p : Option Nat) : carried r p = (r.map BitVec.toNat).or p := by
  cases r <;> rfl

/-- A SoC value is the first of the request's, the Pending Set's, the EM Set's and the Safe Set's (R8). -/
theorem socSource_eq (r : Option Word) (p : Option Nat) (em : Option LimitSet) (field : LimitSet → Nat) (safe : LimitSet) :
    socSource r p em field safe = ((r.map BitVec.toNat).or (p.or (em.map field))).getD (field safe) := by
  cases r with
  | some v => rfl
  | none =>
    cases p with
    | some v => rfl
    | none => cases em <;> rfl

/-- A SET LIMITS changes a value by a clamp: the margin's, or one of the three SoC clamps' (R8). -/
theorem mergeLimits_snd (capacity : Nat) (ls : Limits) (q : LimitFields) :
    (mergeLimits capacity ls q).2 = true ↔
      (∃ m, q.storeMargin = some m ∧ Config.maxMargin < m.toNat) ∨
        (carriesSoc q = true ∧
          clampSoc capacity (socFormed ls q).1 (socFormed ls q).2.1 (socFormed ls q).2.2 ≠ socFormed ls q) := by
  unfold mergeLimits
  dsimp only
  cases hm : q.storeMargin <;> split <;> simp [*]

/-- A carried margin is clamped, and a pending one stays (R8). -/
theorem carriedMargin_eq (r : Option Half) (p : Option Nat) :
    ((carried r p).map fun m => if r.isSome then min m Config.maxMargin else m) =
      (r.map fun m => min m.toNat 5000).or p := by
  cases r with
  | none => simp [carried]
  | some v => rfl

/-- Settles O14: the answers of the two handlers, with the fields of the merged Pending Set read off one by one. -/
theorem pendingSetTakesWrites : Obligations.PendingSetTakesWrites := by
  unfold Obligations.PendingSetTakesWrites
  refine ⟨fun tag s hr => ⟨?_, ?_, ?_⟩, fun tag q s hr hq => ?_, fun tag l s hr => ⟨fun hl => ?_, fun hl => ?_⟩⟩
  · exact congrArg _ (takeRequest_energy s tag _ _ hr)
  · exact congrArg _ (takeRequest_energy s tag _ _ hr)
  · exact congrArg _ (takeRequest_energy s tag _ _ hr)
  · intro first f c g f' c' g' soc
    have hn : carriesNone q = false := Bool.eq_false_iff.2 (mt (carriesNone_iff q).1 hq)
    have hsoc : carriesSoc q = true ↔ soc := carriesSoc_iff q
    have formed : socFormed s.ls q = (f, c, g) := by
      simp only [socFormed, socSource_eq]
      rfl
    have hm := mergeLimits_fst s.cfg.batteryCapacity s.ls q
    have hst := mergeLimits_snd s.cfg.batteryCapacity s.ls q
    have clamped : clampSoc s.cfg.batteryCapacity f c g = (f', c', g') := rfl
    simp only [formed, clamped, hsoc] at hm hst
    refine ⟨(mergeLimits s.cfg.batteryCapacity s.ls q).1,
      if (mergeLimits s.cfg.batteryCapacity s.ls q).2 then .adjusted else .ok, ?_, ?_⟩
    · refine congrArg _ ((takeRequest_energy s tag _ _ hr).trans ?_)
      simp only [handleSetLimits, hn, State.arrive_energy]
      rfl
    · rw [hm]
      refine ⟨carried_eq _ _, carried_eq _ _, carried_eq _ _, carriedMargin_eq _ _, fun h => by simp [h],
        fun h => by simp [h], rfl, rfl, ?_, ?_⟩
      · split
        · exact .inl rfl
        · exact .inr rfl
      · have moved : ¬(f' = f ∧ c' = c ∧ g' = g) ↔ (f', c', g') ≠ (f, c, g) := by simp
        rw [moved]
        refine Iff.trans ?_ hst
        split <;> simp [*]
  · have ok : tariffOk (l.map bandOf) = true := by
      simpa [tariffOk_iff, List.map_map, Function.comp_def, bandOf, and_assoc] using hl
    refine congrArg _ ((takeRequest_energy s tag _ _ hr).trans ?_)
    simp only [handleSetTariff, ok, State.arrive_energy]
    rfl
  · have bad : tariffOk (l.map bandOf) = false := by
      rw [Bool.eq_false_iff]
      intro ok
      apply hl
      simpa [tariffOk_iff, List.map_map, Function.comp_def, bandOf, and_assoc] using ok
    refine congrArg _ ((takeRequest_energy s tag _ _ hr).trans ?_)
    simp only [handleSetTariff, bad]
    rfl

end Sys2Proof.Machine
end

section
/-! The band lookup (R13), SET CLOCK (R3, R41) and READ SITE (R14, R25, R90). -/

namespace Sys2Proof.Machine

/-! ### The band lookup -/

/-- In a table with rising starts the bands that have started are the first ones, and the count tells how many. -/
theorem lt_bandsStarted_iff {t : List Band} (ht : (t.map (·.start)).Pairwise (· < ·)) (minute : Nat) {i : Nat} {b : Band}
    (hb : t[i]? = some b) : i < bandsStarted t minute ↔ b.start ≤ minute := by
  induction t generalizing i with
  | nil => exact nomatch hb
  | cons x t ih =>
    obtain ⟨later, rest⟩ := List.pairwise_cons.1 ht
    by_cases hx : x.start ≤ minute
    · have count : bandsStarted (x :: t) minute = bandsStarted t minute + 1 := by simp [bandsStarted, hx]
      rw [count]
      cases i with
      | zero =>
        cases hb
        simp [hx]
      | succ i => simpa using ih rest hb
    · have after (c : Band) (hc : c ∈ t) : minute < c.start :=
        (Nat.lt_of_not_le hx).trans (later c.start (List.mem_map_of_mem hc))
      have none : bandsStarted (x :: t) minute = 0 := by
        simpa [bandsStarted, hx] using after
      rw [none]
      cases i with
      | zero =>
        cases hb
        simp [hx]
      | succ i => simpa using after b (List.mem_of_getElem? hb)

theorem bandsStarted_le (t : List Band) (minute : Nat) : bandsStarted t minute ≤ t.length :=
  List.length_filter_le _ _

/-- A band has started exactly when the count is not 0. -/
theorem bandsStarted_eq_zero (t : List Band) (minute : Nat) :
    bandsStarted t minute = 0 ↔ ∀ c ∈ t, minute < c.start := by
  simp [bandsStarted]

/-- The index of the current band names a place of the table (R13). -/
theorem bandIndex_range {t : List Band} (ht : t ≠ []) (minute : Nat) :
    1 ≤ bandIndex t minute ∧ bandIndex t minute ≤ t.length := by
  have := List.length_pos_iff.2 ht
  have := bandsStarted_le t minute
  unfold bandIndex
  split <;> omega

/-- Settles O28. The started bands are the first ones of the table, so the last of them has the greatest start. -/
theorem bandLookupFindsCurrentBand : Obligations.BandLookupFindsCurrentBand := by
  intro t minute rising ht
  have range := bandIndex_range ht minute
  refine ⟨range.1, range.2, fun b hb started => ?_, fun before => ?_, fun s hs hm => ?_⟩
  · have positive : bandsStarted t minute ≠ 0 := fun h => by
      obtain ⟨c, hc, hle⟩ := started
      exact absurd ((bandsStarted_eq_zero t minute).1 h c hc) (by omega)
    have index : bandIndex t minute = bandsStarted t minute := if_neg positive
    rw [index] at hb
    refine ⟨(lt_bandsStarted_iff rising minute hb).1 (by omega), fun c hc hle => ?_⟩
    obtain ⟨j, hj⟩ := List.mem_iff_getElem?.1 hc
    have hlt := (lt_bandsStarted_iff rising minute hj).2 hle
    rcases (show j = bandsStarted t minute - 1 ∨ j < bandsStarted t minute - 1 by omega) with rfl | earlier
    · exact (Option.some.inj (hj.symm.trans hb)) ▸ le_rfl
    · obtain ⟨hj', rfl⟩ := List.getElem?_eq_some_iff.1 hj
      obtain ⟨hk', rfl⟩ := List.getElem?_eq_some_iff.1 hb
      have := List.pairwise_iff_getElem.1 rising j _ (by simpa using hj') (by simpa using hk') earlier
      simpa using this.le
  · exact if_pos ((bandsStarted_eq_zero t minute).2 before)
  · have place : bandIndex t minute - 1 < t.length := by omega
    simp only [State.lookup, hs, hm, true_and, List.getElem?_eq_getElem place, Option.getD_some]

/-! ### SET CLOCK -/

variable (s : State)

/-- A payload that is not three bytes, or whose fields are out of range, has no clock fields (R3). -/
theorem clockFields_none {payload : List Byte} (h : payload.length ≠ 3 ∨ ∃ m1 m0 sec : Byte, payload = [m1, m0, sec] ∧
    (1439 < m1.toNat * 256 + m0.toNat ∨ 59 < sec.toNat)) : clockFields payload = none := by
  unfold clockFields
  split
  · next m1 m0 sec =>
    obtain h | ⟨_, _, _, e, h⟩ := h
    · exact absurd rfl h
    · cases e
      exact if_neg (by unfold be16; omega)
  · rfl

/-- A minute-of-day and seconds in range are read (R3). -/
theorem clockFields_some {m1 m0 sec : Byte} (hm : m1.toNat * 256 + m0.toNat ≤ 1439) (hs : sec.toNat ≤ 59) :
    clockFields [m1, m0, sec] = some (m1.toNat * 256 + m0.toNat, sec.toNat) :=
  if_pos ⟨hm, hs⟩

/-- The seconds from a clock set to a minute and whole seconds until the next aligned boundary (R33, R37, R41). -/
theorem remaining_to_boundary {minute sec length : Nat} (hm : minute ≤ 1439) (hs : sec ≤ 59)
    (hl : length = 300 ∨ length = 900 ∨ length = 1800) :
    let stop := ((minute / (length / 60) + 1) * (length / 60)) % 1440
    max 1 (ceilDiv ((stop + 1440 - minute) % 1440 * 60000 - sec * 1000) 1000) =
      ((stop + 1440 - minute) % 1440) * 60 - sec := by
  intro stop
  have ahead : 1 ≤ (stop + 1440 - minute) % 1440 := by
    rcases hl with rfl | rfl | rfl <;> simp only [stop] <;> omega
  generalize (stop + 1440 - minute) % 1440 = m at ahead ⊢
  unfold ceilDiv
  omega

/-- A recorded window: its entry in the history, and port E's notice if the window is OVER (R39 to R41). -/
theorem State.recordWindow_eq (w : Window) (n : Nat) (cut : Bool) : s.recordWindow w n cut =
    { s with
      dg := { s.dg with history := Machine.appendHistory s.dg.history (historyEntry w n cut) }
      sp := if (historyEntry w n cut).isOver
        then (s.raise .energy .demandExceeded (.num w.startMinute) (.basis w.basis)).sp else s.sp } := by
  unfold State.recordWindow
  dsimp only
  split <;> rfl

/-- The cut of a running window: its entry, and a window that opens now (R41). -/
theorem State.clockCut_eq (before : State) {w : Window} (hw : s.dg.window = some w) : s.clockCut before =
    { s with
      dg := { window := some (s.newWindow s.partLength)
              history := Machine.appendHistory s.dg.history (historyEntry w (before.cutLength w) true) }
      sp := if (historyEntry w (before.cutLength w) true).isOver
        then (s.raise .energy .demandExceeded (.num w.startMinute) (.basis w.basis)).sp else s.sp } := by
  unfold State.clockCut
  rw [hw]
  dsimp only
  rw [State.recordWindow_eq]
  rfl

/-- SET CLOCK in CONFIGURE sets the clock alone (R3). -/
theorem handleSetClock_configure {payload : List Byte} {minute seconds : Nat}
    (hp : clockFields payload = some (minute, seconds)) (hrun : s.isRun = false) :
    handleSetClock payload s = ({ s with tb := s.tb.setClock minute seconds }, .ok, .empty) := by
  unfold handleSetClock
  rw [hp]
  simp only [hrun, Bool.false_eq_true, if_false]

/-- SET CLOCK in RUN sets the clock, ends the window as it stood before, and opens a window as the clock stands then (R3,
R41). -/
theorem handleSetClock_run {payload : List Byte} {minute seconds : Nat} {w : Window}
    (hp : clockFields payload = some (minute, seconds)) (hrun : s.isRun = true) (hw : s.dg.window = some w) :
    let s1 : State := { s with tb := s.tb.setClock minute seconds }
    handleSetClock payload s = ({ s1 with
      dg := { window := some (s1.newWindow s1.partLength)
              history := Machine.appendHistory s.dg.history (historyEntry w (s.cutLength w) true) }
      sp := if (historyEntry w (s.cutLength w) true).isOver
        then (s.raise .energy .demandExceeded (.num w.startMinute) (.basis w.basis)).sp else s.sp }, .ok, .empty) := by
  unfold handleSetClock
  rw [hp]
  simp only [hrun, if_true]
  exact congrArg (·, Status.ok, Reply.empty) (State.clockCut_eq { s with tb := s.tb.setClock minute seconds } s hw)

/-- Settles O15. In RUN the cut is measured as the clock stood before, and the new window as it stands after. -/
theorem setClockSets : Obligations.SetClockSets := by
  unfold Obligations.SetClockSets
  refine ⟨fun tag payload s hr bad => ?_, fun tag m1 m0 sec s hr hm hs => ⟨fun hsite => ?_, fun w hsite hw hl => ?_⟩⟩
  · refine congrArg _ ((takeRequest_energy s tag _ _ hr).trans ?_)
    simp only [handleSetClock, clockFields_none bad]
    rfl
  · have hrun : (s.arrive .energy).isRun = false := by simp [State.arrive_energy, State.isRun, hsite]
    refine congrArg _ ((takeRequest_energy s tag _ _ hr).trans ?_)
    rw [handleSetClock_configure _ (clockFields_some hm hs) hrun, State.arrive_energy]
    rfl
  · intro n x k stop len
    have hrun : (s.arrive .energy).isRun = true := by simp [State.arrive_energy, State.isRun, hsite]
    have length : len = _ := (remaining_to_boundary hm hs hl).symm
    have window : (s.arrive .energy).dg.window = some w := by rw [State.arrive_energy]; exact hw
    have answer := handleSetClock_run _ (clockFields_some hm hs) hrun window
    rw [State.arrive_energy] at answer
    have entry (f : PortState → PortState) : historyEntry w ((s.updPort .energy f).cutLength w) true = x := rfl
    refine ⟨((handleSetClock [m1, m0, sec] (s.arrive .energy)).1.respond .energy tag 0x16 .ok .empty).sp,
      congrArg _ ((takeRequest_energy s tag _ _ hr).trans ?_), ?_⟩
    all_goals rw [State.arrive_energy, answer]
    · rw [length]
      rfl
    · rw [entry]
      cases x.isOver <;> exact ⟨rfl, rfl, rfl, rfl⟩

/-! ### READ SITE -/

/-- The clock's seconds, while no clock minute event is still to be taken (log 20). -/
theorem clockSeconds_of_lt {x : TimeBase} (h : x.clockPhase < 60000) : x.clockSeconds = x.clockPhase / 1000 := by
  unfold TimeBase.clockSeconds
  omega

/-- OVERCOMMIT holds in RUN when the committed sum exceeds the budget of the latest round (R88). -/
theorem State.overcommitted_iff :
    s.overcommitted = true ↔ s.site = .run ∧ ∃ x, s.al.results = some x ∧ x.cb < s.committedSum := by
  unfold State.overcommitted
  cases s.al.results <;> simp [State.isRun]

/-- The bays of a state among the known ones (R62, log 21). -/
theorem State.countBays_eq (x : BayState) : s.countBays x =
    (s.bt.bays.filter fun b => decide (1 ≤ b.number ∧ b.number ≤ s.cfg.bayCount ∧ b.state = x)).length := by
  simp [State.countBays, State.isKnown, Bool.and_assoc]

/-- Settles O16: the reply is formed from the state as the frame's arrival leaves it, which differs in port E alone. -/
theorem readSiteReportsAndClears : Obligations.ReadSiteReportsAndClears := by
  intro tag s hr count active pend
  refine ⟨⟨(s.arrive .energy).siteReply, ?_, ?_⟩, fun b l => ?_⟩
  · refine congrArg _ ((takeRequest_energy s tag _ _ hr).trans ?_)
    simp only [handleReadSite, bareRequest, State.arrive_energy]
    rfl
  · rw [State.arrive_energy]
    refine ⟨rfl, rfl, rfl, fun hp => clockSeconds_of_lt hp, rfl, rfl, rfl, rfl, rfl, rfl, rfl, rfl, rfl, rfl, rfl, rfl, rfl,
      rfl, rfl, rfl, rfl, rfl, rfl, rfl, rfl, rfl, rfl, rfl, s.overcommitted_iff, rfl, s.countBays_eq _, s.countBays_eq _,
      s.countBays_eq _, s.countBays_eq _, s.countBays_eq _, s.countBays_eq _, rfl, rfl, rfl, rfl⟩
  · exact congrArg _ (takeRequest_energy s tag _ _ hr)

end Sys2Proof.Machine
end

section
/-! The time base and the setpoint periods (R1, R2, R106, R107), and the round tick (R4, R7, R10, R11, R36, R57, R89). -/

namespace Sys2Proof.Machine

variable (s : State)

/-! ### Periods and minutes -/

/-- The end of a period, with the advance still to be made or made before (R1, R2, R107, log 2). -/
theorem State.endPeriod_eq : s.endPeriod =
    { (if s.tb.advanceMade then { s with tb := { s.tb with advanceMade := false } } else s.advanceMs : State) with
      so := ⟨⟨s.so.bset.next.getD s.so.bset.current, none⟩, ⟨s.so.clim.next.getD s.so.clim.current, none⟩⟩ } := by
  rw [State.endPeriod, s.so.bset.transfer_eq, s.so.clim.transfer_eq]

/-- The minute after a minute-of-day wraps at 1440 (R2). -/
theorem nextMinute_eq {m : Nat} (h : m < 1440) : (if m = 1439 then 0 else m + 1) = (m + 1) % 1440 := by
  split <;> omega

/-- Settles O43. -/
theorem timeAdvances : Obligations.TimeAdvances := by
  intro s hh moved so
  have event (f : State → State) : unlessHeld f s = f s := unlessHeld_free s f hh
  refine ⟨fun o microsecond => ?_, fun h => congrArg _ ((event _).trans ?_), fun h => congrArg _ ((event _).trans ?_),
    fun h hm => congrArg _ ((event _).trans ?_), fun h => congrArg _ ((event _).trans ?_),
    fun h hm => congrArg _ ((event _).trans ?_), fun h => congrArg _ ((event _).trans ?_)⟩
  · simp [State.wireHigh, State.wire, hh]
  · rw [State.endPeriod_eq, h]
    rfl
  · rw [State.endPeriod_eq, h]
    rfl
  · have count : minuteNumber (s.tb.monoMin + 1) = s.tb.monoMin + 1 := if_pos hm
    simp only [State.countMinute, if_pos h, TimeBase.monotonicMinute, count]
    rfl
  · exact if_neg (Nat.not_le.2 h)
  · simp only [TimeBase.clockMinute, if_pos h, nextMinute_eq hm]
  · simp only [TimeBase.clockMinute, if_neg (Nat.not_le.2 h)]

/-! ### What a tick does before its round -/

/-- The take, written out: with the waiting mark clear nothing happens (R10). -/
theorem State.takePending_idle (h : s.ls.pend.waiting = false) : s.takePending = s := by
  simp [State.takePending, h]

theorem State.takePending_waiting (h : s.ls.pend.waiting = true) : s.takePending =
    State.raise .energy .limitsTaken (.parts s.ls.pend.hasLimits s.ls.pend.tariff.isSome) (.num 0)
      { s with ls := { s.ls with
        em := some (takenSet s.ls.pend (s.ls.em.getD s.ls.safe))
        pend := PendingSet.empty } } := by
  simp [State.takePending, h]

/-- The Limit Sets after a tick: what the take left, the Safe Set rebuilt, and the choice between them (R7, R10, R11). -/
theorem State.tickLimits_eq : ∃ active source,
    s.tickLimits = { s.takePending with ls :=
      { s.takePending.ls with safe := buildSafe s.cfg s.takePending.ls.em, active := active, source := source } } ∧
    ((∀ x, s.takePending.ls.em = some x → s.isPresent .energy = true → active = x ∧ source = .em) ∧
      (s.takePending.ls.em = none ∨ s.isPresent .energy = false →
        active = buildSafe s.cfg s.takePending.ls.em ∧ source = .safe)) := by
  have present : s.takePending.isPresent .energy = s.isPresent .energy := by
    unfold State.takePending
    split
    · exact State.raise_isPresent _ _ _ _ _ _
    · rfl
  have cfg : s.takePending.cfg = s.cfg := by
    obtain ⟨ls, sp, h⟩ := s.takePending_frame
    rw [h]
  rw [← present, ← cfg]
  show ∃ active source, s.takePending.rebuildSafe.chooseActive = _ ∧ _
  generalize s.takePending = u
  unfold State.chooseActive
  split
  · next x hx =>
    have hx' : u.ls.em = some x := hx
    split
    · next hp =>
      exact ⟨x, .em, rfl, fun y hy _ => ⟨Option.some.inj (hx'.symm.trans hy), rfl⟩, fun h => by
        rcases h with h | h
        · exact nomatch hx'.symm.trans h
        · exact nomatch hp.symm.trans h⟩
    · next hp => exact ⟨_, .safe, rfl, fun _ _ h => absurd h hp, fun _ => ⟨rfl, rfl⟩⟩
  · next hx => exact ⟨_, .safe, rfl, fun _ h _ => (nomatch hx.symm.trans h), fun _ => ⟨rfl, rfl⟩⟩

/-- The Safe Set, written out (R7). -/
theorem State.buildSafe_eq (em : Option LimitSet) :
    let floor := min s.cfg.safeFloor s.cfg.batteryCapacity
    let ceil := min (max s.cfg.safeCeil floor) s.cfg.batteryCapacity
    buildSafe s.cfg em = {
      importCap := s.cfg.safeImportCap
      exportCap := 0
      demandLimit := s.cfg.safeDemand
      storeMargin := s.cfg.safeMargin
      socFloor := floor
      socCeil := ceil
      socTarget := min (max s.cfg.safeTarget floor) ceil
      tariff := (em.map (·.tariff)).getD [⟨0, 0, false, false⟩] } := by
  cases em <;> rfl

/-- The window against the Active demand limit (R36). -/
theorem State.tickGuard_eq : s.tickGuard = { s with dg := { s.dg with window := s.dg.window.map fun w =>
    if s.ls.active.demandLimit = w.d then w else
      { w with d := s.ls.active.demandLimit, elim := s.ls.active.demandLimit * w.length / 36 } } } := by
  unfold State.tickGuard
  split
  · next hw => rw [hw, Option.map_none, ← hw]
  · next w hw =>
    split
    · next hd => rw [hw, Option.map_some, if_pos hd, ← hw]
    · next hd =>
      rw [hw, Option.map_some, if_neg hd]
      rfl

/-- An ACTIVE bay whose last report is older than the report limit (R57). -/
theorem State.isOverAge_iff (b : BayRec) : s.isOverAge b = true ↔ 1 ≤ b.number ∧ b.number ≤ s.cfg.bayCount ∧
    b.state = .active ∧ s.cfg.reportLimit * 1000 < (s.tb.ms - b.lastReport).toNat := by
  simp only [State.isOverAge, State.isKnown, Bool.and_eq_true, decide_eq_true_eq, and_assoc]
  rfl

/-- The stale marks of a tick (R57). -/
theorem State.markStale_eq : s.markStale = { s with bt := { s.bt with bays := s.bt.bays.map fun b =>
    if 1 ≤ b.number ∧ b.number ≤ s.cfg.bayCount ∧ b.state = .active ∧
        s.cfg.reportLimit * 1000 < (s.tb.ms - b.lastReport).toNat then { b with stale := true } else b } } := by
  unfold State.markStale State.mapBays
  simp only [State.isOverAge_iff]

/-- Settles O50. -/
theorem tickPreparesRound : Obligations.TickPreparesRound := by
  intro s t base taken limits floor ceil
  obtain ⟨active, source, limited, onEm, onSafe⟩ := s.tickLimits_eq
  obtain ⟨keptTime, keptCfg, keptGuard, keptBays⟩ :
      s.takePending.tb = s.tb ∧ s.takePending.cfg = s.cfg ∧ s.takePending.dg = s.dg ∧ s.takePending.bt = s.bt := by
    obtain ⟨ls, sp, h⟩ := s.takePending_frame
    rw [h]
    exact ⟨rfl, rfl, rfl, rfl⟩
  have ht : t = State.markStale (State.tickGuard s.tickLimits) := rfl
  rw [State.markStale_eq, State.tickGuard_eq, limited] at ht
  have lapsed : (s.port .energy).presence = .lapsed → s.isPresent .energy = false := fun h => by simp [State.isPresent, h]
  refine ⟨?_, fun hw => ?_, fun hw => ?_, ?_, fun x hx hp => ?_, fun h => ?_, ?_, ?_⟩
  · obtain ⟨ls, sp, h⟩ := s.takePending_frame
    rw [ht, h]
    exact ⟨_, _, _, _, rfl⟩
  · rw [ht, s.takePending_idle hw]
    exact ⟨rfl, rfl, rfl⟩
  · rw [ht, s.takePending_waiting hw]
    exact ⟨rfl, rfl, rfl⟩
  · rw [ht]
    exact s.buildSafe_eq _
  · rw [ht] at hx ⊢
    exact onEm x hx ((s.isPresent_iff .energy).2 hp)
  · rw [ht] at h ⊢
    exact onSafe (h.imp id lapsed)
  · rw [ht]
    simp only [keptGuard]
  · rw [ht]
    simp only [keptTime, keptCfg, keptBays]

end Sys2Proof.Machine
end

section
/-! The round of a tick: its record, its duties, and the issue that the aged bays leave as it is (R4, R67 to R89). -/

namespace Sys2Proof.Machine

variable (s : State)

/-! ### When a tick is due -/

theorem State.tickReached_iff {tick : Word} (h : s.tb.nextTick = some tick) (now : Word) : s.tickReached now = true ↔
    s.cfg.roundPeriod * 1000 ≤ (now - (tick - BitVec.ofNat 32 (s.cfg.roundPeriod * 1000))).toNat := by
  unfold State.tickReached
  rw [h]
  exact decide_eq_true_iff

/-- A tick that is due finds the counter where it is (R4). -/
theorem State.comeToTick_due (h : s.tickComing = false) : s.comeToTick = s := by
  simp [State.comeToTick, h]

/-- A tick that comes with the end of the period makes the advance (log 2). -/
theorem State.comeToTick_coming (h : s.tickComing = true) : s.comeToTick =
    { s with
      tb := { s.tb with ms := s.tb.ms + 1, monoPhase := s.tb.monoPhase + 1, clockPhase := s.tb.clockPhase + 1,
                        advanceMade := true }
      jl := { s.jl with silence := s.cfg.silenceLimit, presenceN := s.cfg.presenceN, presenceT := s.cfg.presenceT,
                        presenceE := s.cfg.presenceE } } := by
  unfold State.comeToTick
  rw [if_pos h]
  rfl

/-- A tick is due in RUN when its time is reached (R4). -/
theorem State.tickDue_iff {tick : Word} (h : s.tb.nextTick = some tick) : s.tickDue = true ↔ s.site = .run ∧
    s.cfg.roundPeriod * 1000 ≤ (s.tb.ms - (tick - BitVec.ofNat 32 (s.cfg.roundPeriod * 1000))).toNat := by
  rw [State.tickDue, Bool.and_eq_true, s.isRun_iff, s.tickReached_iff h]

/-- A tick comes with the end of this period when the advance brings the counter to its time (log 2). -/
theorem State.tickComing_iff {tick : Word} (h : s.tb.nextTick = some tick) : s.tickComing = true ↔
    s.site = .run ∧ s.tb.advanceMade = false ∧
      ¬ s.cfg.roundPeriod * 1000 ≤ (s.tb.ms - (tick - BitVec.ofNat 32 (s.cfg.roundPeriod * 1000))).toNat ∧
      s.cfg.roundPeriod * 1000 ≤ (s.tb.ms + 1 - (tick - BitVec.ofNat 32 (s.cfg.roundPeriod * 1000))).toNat := by
  simp only [State.tickComing, Bool.and_eq_true, Bool.not_eq_true', ← Bool.not_eq_true, s.isRun_iff, s.tickReached_iff h,
    and_assoc]

/-- What a tick prepares changes the limits, the window, the bays and port E's notices alone (R10, R36, R57). -/
theorem State.prepare_frame : ∃ ls dg bt sp, s.tickLimits.tickGuard.markStale = { s with ls := ls, dg := dg, bt := bt, sp := sp } ∧
    sp.network = s.sp.network ∧ sp.till = s.sp.till := by
  obtain ⟨active, source, h, _⟩ := s.tickLimits_eq
  have take : ∃ ls sp, s.takePending = { s with ls := ls, sp := sp } ∧ sp.network = s.sp.network ∧ sp.till = s.sp.till := by
    unfold State.takePending
    split
    · exact ⟨_, _, rfl, rfl, rfl⟩
    · exact ⟨_, _, rfl, rfl, rfl⟩
  obtain ⟨ls, sp, ht, hn⟩ := take
  rw [State.markStale_eq, State.tickGuard_eq, h, ht]
  exact ⟨_, _, _, _, rfl, hn⟩

/-! ### The issue does not read what a round has changed before it -/

/-- Two states agree in what an issue reads: the grants, the configuration, the time, the sessions, and the number and state
of each bay record (R95). -/
structure State.SameIssue (u v : State) : Prop where
  grants : v.gt = u.gt
  cfg : v.cfg = u.cfg
  time : v.tb = u.tb
  sessions : v.st = u.st
  bays : v.bt.bays.map (fun b => (b.number, b.state)) = u.bt.bays.map fun b => (b.number, b.state)

variable {u v : State} (l : List (Nat × Nat)) (cb : Nat)

/-- The committed sum is formed from the numbers and states of the bays and from the grants (R93). -/
theorem State.committedSum_eq : s.committedSum = total
    (((s.bt.bays.map fun b => (b.number, b.state)).filter fun x => s.isKnown x.1 && decide (x.2 ≠ .outOfService)).map
      fun x => s.committed x.1) := by
  simp only [State.committedSum, State.inServiceBays, List.filter_map, List.map_map]
  rfl

theorem State.SameIssue.committedSum (h : u.SameIssue v) : v.committedSum = u.committedSum := by
  rw [State.committedSum_eq, State.committedSum_eq]
  simp only [h.bays, State.isKnown, h.cfg, State.committed, State.grant, h.grants]

/-- The raise of one bay, if there is one, against a committed sum (R95). -/
def raiseBy (cb committedSum bayMin k : Nat) (x : GrantRec) : Option Nat :=
  (targetOf l k).bind fun t =>
    if x.g < t then raiseTo bayMin ((cb : Int) - ((committedSum : Int) - (max x.g x.a : Nat))) x.g x.a t else none

/-- The grants after the second pass at one bay (R95). -/
theorem State.raiseOne_gt (k : Nat) : (s.raiseOne l cb k).gt =
    match raiseBy l cb s.committedSum s.cfg.bayMin k (s.grant k) with
    | some v => { s.gt with grants := s.gt.grants.map fun x => if x.bay = k then x.move s.tb.ms v x.a else x }
    | none => s.gt := by
  unfold State.raiseOne raiseBy
  cases targetOf l k with
  | none => rfl
  | some t =>
    rw [Option.bind_some]
    dsimp only [State.committed]
    split
    · generalize raiseTo _ _ _ _ _ = raised
      cases raised <;> rfl
    · rfl

/-- The same raise is made in states that agree for an issue (R95). -/
theorem State.SameIssue.raiseOne (h : u.SameIssue v) (k : Nat) : (u.raiseOne l cb k).SameIssue (v.raiseOne l cb k) := by
  have grant : v.grant k = u.grant k := by simp only [State.grant, h.grants]
  have gt : (v.raiseOne l cb k).gt = (u.raiseOne l cb k).gt := by
    rw [State.raiseOne_gt, State.raiseOne_gt, h.committedSum, h.cfg, h.time, h.grants, grant]
  obtain ⟨gu, hu⟩ := u.raiseOne_frame l cb k
  obtain ⟨gv, hv⟩ := v.raiseOne_frame l cb k
  refine ⟨gt, ?_, ?_, ?_, ?_⟩
  all_goals rw [hu, hv]
  · exact h.cfg
  · exact h.time
  · exact h.sessions
  · exact h.bays

theorem State.SameIssue.raiseAll (ks : List Nat) (h : u.SameIssue v) :
    (ks.foldl (State.raiseOne l cb) u).SameIssue (ks.foldl (State.raiseOne l cb) v) := by
  induction ks generalizing u v with
  | nil => exact h
  | cons k ks ih => exact ih (h.raiseOne l cb k)

theorem State.SameIssue.mapGrants (f : GrantRec → GrantRec) (h : u.SameIssue v) :
    (u.mapGrants f).SameIssue (v.mapGrants f) :=
  ⟨by simp only [State.mapGrants, h.grants], h.cfg, h.time, h.sessions, h.bays⟩

theorem State.SameIssue.issuePasses (h : u.SameIssue v) : (u.issuePasses l cb).SameIssue (v.issuePasses l cb) := by
  have order : v.admissionBays = u.admissionBays := by simp only [State.admissionBays, State.openSessions, h.sessions]
  unfold State.issuePasses
  rw [order, h.time]
  exact (h.mapGrants _).raiseAll l cb _

/-- The same epoch is taken over the same grants (R94). -/
theorem State.takeEpoch_agree (f : Nat → Bool) (hg : v.gt = u.gt) (hp : v.sp.network = u.sp.network) :
    (v.takeEpoch f).gt = (u.takeEpoch f).gt ∧ (v.takeEpoch f).sp.network = (u.takeEpoch f).sp.network := by
  simp only [State.takeEpoch, State.raise, State.updPort, StationPorts.set, StationPorts.get, hg, hp, and_self]

/-- The bays whose issued grant differs between two tables of grants (R94). -/
def reissued (old new : List GrantRec) (k : Nat) : Bool :=
  decide ((((new.find? fun x => x.bay == k).getD (GrantRec.fresh k)).g ≠
    ((old.find? fun x => x.bay == k).getD (GrantRec.fresh k)).g))

/-- An issue moves the grants and takes an epoch for the bays whose issued grant changed (R94, R95). -/
theorem State.issueTargets_eq {w : State} (hw : (s.issuePasses l cb).mapGrants (markDeferred l) = w) : s.issueTargets l cb =
    if w.gt.grants.any fun x => reissued s.gt.grants w.gt.grants x.bay then w.takeEpoch (reissued s.gt.grants w.gt.grants)
    else w := by
  subst hw
  rfl

/-- An issue makes the same grants in states that agree for it (R95, R96). -/
theorem State.SameIssue.issueTargets (h : u.SameIssue v) (hp : v.sp.network = u.sp.network) :
    (v.issueTargets l cb).gt = (u.issueTargets l cb).gt ∧
      (v.issueTargets l cb).sp.network = (u.issueTargets l cb).sp.network := by
  have marked := ((h.issuePasses l cb).mapGrants (markDeferred l)).grants
  have port : ((v.issuePasses l cb).mapGrants (markDeferred l)).sp.network =
      ((u.issuePasses l cb).mapGrants (markDeferred l)).sp.network := by
    obtain ⟨gu, hu⟩ := u.issuePasses_frame l cb
    obtain ⟨gv, hv⟩ := v.issuePasses_frame l cb
    rw [hu, hv]
    exact hp
  rw [u.issueTargets_eq l cb rfl, v.issueTargets_eq l cb rfl, marked, h.grants]
  split
  · exact State.takeEpoch_agree _ marked port
  · exact ⟨marked, port⟩

/-- An issue tells port N alone (R94). -/
theorem State.issueTargets_ports : (s.issueTargets l cb).sp.till = s.sp.till ∧ (s.issueTargets l cb).sp.energy = s.sp.energy := by
  obtain ⟨gt, h⟩ := s.issuePasses_frame l cb
  simp only [State.issueTargets, h]
  split <;> exact ⟨rfl, rfl⟩

end Sys2Proof.Machine
end

section
/-! What a round leaves: its record in the rules' own words, the aged bays, the grants and the notices of its issue (R84 to
R89). -/

namespace Sys2Proof.Machine

variable (s : State)

/-! ### The conditions a record is formed with -/

theorem BayRec.isFresh_eq (b : BayRec) : b.isFresh = decide (b.state = .active ∧ b.stale = false) := by
  cases h : b.stale <;> simp [BayRec.isFresh, h]

theorem BayRec.isStale_eq (b : BayRec) : b.isStale = decide (b.state = .active ∧ b.stale = true) := by
  cases h : b.stale <;> simp [BayRec.isStale, h]

/-- The charger sum over the measured, the stale and the FALLBACK bays (R69). -/
theorem State.csum_eq : s.csum = total (s.inServiceBays.map fun b =>
    if decide (b.state = .active ∧ b.stale = false) = true then b.measured
    else if decide (b.state = .active ∧ b.stale = true) = true ∨ b.state = .fallback then
      max (s.grant b.number).g (s.grant b.number).a
    else 0) := by
  unfold State.csum
  refine congrArg _ (List.map_congr_left fun b _ => ?_)
  simp only [State.csumTerm, BayRec.isFresh_eq, BayRec.isStale_eq, Bool.or_eq_true, decide_eq_true_eq]
  rfl

/-- The issued grants of the stale bays (R79). -/
theorem State.rstale_eq : s.rstale = total (s.inServiceBays.map fun b =>
    if decide (b.state = .active ∧ b.stale = true) = true then (s.grant b.number).g else 0) := by
  simp only [State.rstale, BayRec.isStale_eq]

/-- A round asks for a band below the ceiling, BFULL not asserted (R75). -/
theorem State.asksBand_iff : s.asksBand = true ↔ s.mi.soc < s.ls.active.socCeil ∧ s.mi.bfull.accepted ≠ some true := by
  simp [State.asksBand, BoundState.isAsserted]

/-- The CLIM duty is full where the canopy has no cap or no rating (R110). -/
theorem climDuty_eq (exportCap canopyRated limit : Nat) : climDuty exportCap canopyRated limit =
    if exportCap = 65535 ∨ canopyRated = 0 then 1000 else min 1000 (1000 * limit / canopyRated) := by
  show (if exportCap = 65535 then 1000 else if canopyRated = 0 then 1000 else min 1000 (1000 * limit / canopyRated)) = _
  split
  · next he => rw [if_pos (.inl he)]
  · next he =>
    split
    · next hc => rw [if_pos (.inr hc)]
    · next hc => rw [if_neg (not_or.2 ⟨he, hc⟩)]

/-! ### A round, block by block -/

/-- The state of a round before its hand-off: the shortfall told, the candidates aged (R78, R84). -/
def State.agedForRound (q : State) : State :=
  (q.reportShortfall q.figures).ageBays q.figures.shared.targets

variable (q : State)

theorem State.agedForRound_eq : ∃ sp, q.reportShortfall q.figures = { q with sp := sp } ∧
    q.agedForRound = { q with bt := q.agedForRound.bt, sp := sp } := by
  obtain ⟨sp, h⟩ := q.reportShortfall_frame q.figures
  refine ⟨sp, h, ?_⟩
  rw [State.agedForRound, h]
  rfl

/-- The duties written and the round recorded, on the blocks of the hand-off (R89, R108, R110). -/
theorem State.record_after_handoff (f : RoundFigures) (r : RoundResults) (limit : Nat) (bt : BayTable) (gt : GrantTable)
    (sp : StationPorts) : (State.roundDuties f limit { q with bt := bt, gt := gt, sp := sp }).recordRound r = { q with
      bt := bt
      al := { loadHistory := r.history, rotation := r.rotation, roundNumber := r.roundNumber, results := some r }
      gt := gt
      so := {
        bset := ⟨q.so.bset.current, some (bsetDuty q.cfg.bchgMax q.cfg.bdisMax f.charge f.discharge)⟩
        clim := ⟨q.so.clim.current, some (climDuty q.ls.active.exportCap q.cfg.canopyRated limit)⟩ }
      sp := sp } := rfl

/-- A round writes its duties and its record on what its hand-off leaves (R87, R89). -/
theorem State.round_written {u : State} (hu : q.agedForRound.handTargets q.figures = u) : q.round =
    (State.roundDuties q.figures (roundRecord q q.figures u.committedSum).canopyLimit u).recordRound
      (roundRecord q q.figures u.committedSum) := by
  subst hu
  rfl

/-- Neither the duties nor the record touch the bays, the grants or the ports (R89, R107). -/
theorem State.record_blocks (f : RoundFigures) (r : RoundResults) (limit : Nat) :
    ((q.roundDuties f limit).recordRound r).bt = q.bt ∧ ((q.roundDuties f limit).recordRound r).gt = q.gt ∧
      ((q.roundDuties f limit).recordRound r).sp = q.sp :=
  ⟨rfl, rfl, rfl⟩

/-- Neither the duties nor the record touch what the committed sum is formed from (R93). -/
theorem State.record_committedSum (f : RoundFigures) (r : RoundResults) (limit : Nat) :
    ((q.roundDuties f limit).recordRound r).committedSum = q.committedSum := rfl

/-- The round's record is of the state it read, but for the committed sum it leaves; the duties are written from both
(R87, R89, R108, R110). -/
theorem State.round_out {r : RoundResults} (hr : roundRecord q q.figures q.round.committedSum = r) : q.round = { q with
    bt := q.round.bt
    al := { loadHistory := r.history, rotation := r.rotation, roundNumber := r.roundNumber, results := some r }
    gt := q.round.gt
    so := {
      bset := ⟨q.so.bset.current, some (bsetDuty q.cfg.bchgMax q.cfg.bdisMax q.figures.charge q.figures.discharge)⟩
      clim := ⟨q.so.clim.current, some (climDuty q.ls.active.exportCap q.cfg.canopyRated r.canopyLimit)⟩ }
    sp := q.round.sp } := by
  obtain ⟨sp, _, ha⟩ := q.agedForRound_eq
  obtain ⟨gt, sp', hh⟩ := q.agedForRound.handTargets_frame q.figures
  have written := q.round_written (hh.trans (by rw [ha]))
  have sum := congrArg State.committedSum written
  rw [State.record_committedSum] at sum
  rw [← sum, hr, State.record_after_handoff] at written
  rw [written]

/-- A round leaves the bays as it has aged them (R84, R85), and the grants and the notices of its hand-off (R86). -/
theorem State.round_blocks : q.round.bt = q.agedForRound.bt ∧ q.round.gt = (q.agedForRound.handTargets q.figures).gt ∧
    q.round.sp = (q.agedForRound.handTargets q.figures).sp := by
  have bays : (q.agedForRound.handTargets q.figures).bt = q.agedForRound.bt := by
    obtain ⟨gt, sp, h⟩ := q.agedForRound.handTargets_frame q.figures
    rw [h]
  rw [q.round_written rfl, ← bays]
  exact State.record_blocks ..

theorem State.agedForRound_isPresent (p : Port) : q.agedForRound.isPresent p = q.isPresent p := by
  show (q.reportShortfall q.figures).isPresent p = q.isPresent p
  unfold State.reportShortfall
  split
  · exact q.raise_isPresent ..
  · rfl

/-- The shortfall is told on port E alone (R78). -/
theorem State.agedForRound_ports : q.agedForRound.sp.network = q.sp.network ∧ q.agedForRound.sp.till = q.sp.till ∧
    q.agedForRound.sp.energy = if q.figures.headroom + q.figures.discharge < 0
      then (q.raise .energy .storeOverload (.num q.figures.shortfall) (.num (q.al.roundNumber + 1).toNat)).sp.energy
      else q.sp.energy := by
  show (q.reportShortfall q.figures).sp.network = _ ∧ (q.reportShortfall q.figures).sp.till = _ ∧
    (q.reportShortfall q.figures).sp.energy = _
  unfold State.reportShortfall
  split
  · exact ⟨rfl, rfl, rfl⟩
  · exact ⟨rfl, rfl, rfl⟩

/-- Aging changes neither the number nor the state of a bay (R84). -/
theorem BayRec.age_number_state (b : BayRec) (aging promotion target : Nat) :
    ((b.age aging promotion target).number, (b.age aging promotion target).state) = (b.number, b.state) := by
  simp only [BayRec.age, apply_ite BayRec.number, apply_ite BayRec.state, ite_self]

/-- A bay record after a round: a candidate ages by its target in the sharing, any other bay is left (R84, R85). -/
def agedBay (aging promotion : Nat) (targets : List (Nat × Nat)) (b : BayRec) : BayRec :=
  match targetOf targets b.number with
  | none => b
  | some v => b.age aging promotion v

theorem agedBay_number_state (aging promotion : Nat) (targets : List (Nat × Nat)) (b : BayRec) :
    ((agedBay aging promotion targets b).number, (agedBay aging promotion targets b).state) = (b.number, b.state) := by
  unfold agedBay
  split
  · rfl
  · exact b.age_number_state ..

/-- The aged bays of a round (R84, R85). -/
theorem State.agedForRound_bt : q.agedForRound.bt = { q.bt with
    bays := q.bt.bays.map (agedBay q.cfg.agingLimit q.cfg.promotionLength q.figures.shared.targets) } := by
  obtain ⟨sp, h, _⟩ := q.agedForRound_eq
  rw [State.agedForRound, h]
  unfold State.ageBays State.mapBays
  refine congrArg (fun f => ({ q.bt with bays := q.bt.bays.map f } : BayTable)) (funext fun b => ?_)
  unfold agedBay
  cases targetOf q.figures.shared.targets b.number with
  | none => rfl
  | some v => rfl

/-- What the round does before its hand-off does not matter to the issue (R86, R95). -/
theorem State.sameIssue_agedForRound : q.SameIssue q.agedForRound := by
  obtain ⟨sp, _, h⟩ := q.agedForRound_eq
  have bays : q.agedForRound.bt.bays.map (fun b => (b.number, b.state)) = q.bt.bays.map fun b => (b.number, b.state) := by
    rw [q.agedForRound_bt, List.map_map]
    exact List.map_congr_left fun b _ => agedBay_number_state _ _ _ b
  refine ⟨?_, ?_, ?_, ?_, bays⟩
  all_goals rw [h]

/-- With port N PRESENT a round issues its targets (R86). -/
theorem State.round_present (hp : q.isPresent .network = true) :
    q.round.gt = (q.issueTargets q.figures.targets q.figures.cb).gt ∧
      q.round.sp.network = (q.issueTargets q.figures.targets q.figures.cb).sp.network := by
  have handed : q.agedForRound.handTargets q.figures = q.agedForRound.issueTargets q.figures.targets q.figures.cb :=
    if_pos ((q.agedForRound_isPresent _).trans hp)
  obtain ⟨_, hg, hs⟩ := q.round_blocks
  rw [hg, hs, handed]
  exact q.sameIssue_agedForRound.issueTargets _ _ q.agedForRound_ports.1

/-- With port N not PRESENT a round has no candidates and hands nothing off (R74). -/
theorem State.round_absent (hp : q.isPresent .network = false) : q.round.gt = q.gt ∧ q.round.bt = q.bt ∧
    q.figures.targets = [] ∧ q.round.sp.network = q.sp.network := by
  have handed : q.agedForRound.handTargets q.figures = q.agedForRound :=
    if_neg (by rw [q.agedForRound_isPresent, hp]; exact Bool.false_ne_true)
  have shared : q.figures.shared.targets = [] := by
    simp [State.figures, hp, shareBudget, shareClass]
  obtain ⟨hb, hg, hs⟩ := q.round_blocks
  refine ⟨?_, ?_, by simp [State.figures, hp], ?_⟩
  · rw [hg, handed]
    exact q.sameIssue_agedForRound.grants
  · rw [hb, q.agedForRound_bt, shared]
    exact congrArg (fun l => ({ q.bt with bays := l } : BayTable)) (List.map_id' _)
  · rw [hs, handed]
    exact q.agedForRound_ports.1

/-- A round tells port T nothing, and port E its shortfall (R78). -/
theorem State.round_ports : q.round.sp.till = q.sp.till ∧
    q.round.sp.energy = if q.figures.headroom + q.figures.discharge < 0
      then (q.raise .energy .storeOverload (.num q.figures.shortfall) (.num (q.al.roundNumber + 1).toNat)).sp.energy
      else q.sp.energy := by
  obtain ⟨_, till, energy⟩ := q.agedForRound_ports
  have handed : (q.agedForRound.handTargets q.figures).sp.till = q.agedForRound.sp.till ∧
      (q.agedForRound.handTargets q.figures).sp.energy = q.agedForRound.sp.energy := by
    unfold State.handTargets
    split
    · exact q.agedForRound.issueTargets_ports _ _
    · exact ⟨rfl, rfl⟩
  rw [q.round_blocks.2.2, handed.1, handed.2]
  exact ⟨till, energy⟩

end Sys2Proof.Machine
end

section
/-! A round tick that is taken: the tick prepares the round, the round is taken, and the next tick is set (R4, log 2). -/

namespace Sys2Proof.Machine

variable (s q : State)

theorem State.comeToTick_self : s.comeToTick = { s with tb := s.comeToTick.tb, jl := s.comeToTick.jl } := by
  obtain ⟨jl, tb, h⟩ := s.comeToTick_frame
  rw [h]

/-- The advance a tick makes leaves the schedule (R4). -/
theorem State.comeToTick_nextTick : s.comeToTick.tb.nextTick = s.tb.nextTick := by
  unfold State.comeToTick
  split <;> rfl

/-- Setting the next tick changes the schedule alone (R4). -/
theorem State.scheduleNext_eq {tick : Word} (h : s.tb.nextTick = some tick) : s.scheduleNext =
    { s with tb := { s.tb with nextTick := some (tick + BitVec.ofNat 32 (s.cfg.roundPeriod * 1000)) } } := by
  rw [State.scheduleNext, h]
  rfl

theorem State.scheduleNext_committedSum : s.scheduleNext.committedSum = s.committedSum := rfl

/-- A taken round with the next tick set: the record, the duties and the schedule spelled out (R4, R89, R108, R110). -/
theorem State.taken_eq {tick : Word} (hn : q.tb.nextTick = some tick) {r : RoundResults}
    (hr : roundRecord q q.figures q.round.committedSum = r) : q.round.scheduleNext = { q with
    tb := { q.tb with nextTick := some (tick + BitVec.ofNat 32 (q.cfg.roundPeriod * 1000)) }
    bt := q.round.bt
    al := { loadHistory := r.history, rotation := r.rotation, roundNumber := r.roundNumber, results := some r }
    gt := q.round.gt
    so := {
      bset := ⟨q.so.bset.current, some (bsetDuty q.cfg.bchgMax q.cfg.bdisMax q.figures.charge q.figures.discharge)⟩
      clim := ⟨q.so.clim.current, some (climDuty q.ls.active.exportCap q.cfg.canopyRated r.canopyLimit)⟩ }
    sp := q.round.sp } := by
  have out := q.round_out hr
  generalize q.round.bt = bt, q.round.gt = gt, q.round.sp = sp at out ⊢
  rw [out]
  exact State.scheduleNext_eq _ hn

/-- A round tick that is due or coming is taken; any other changes nothing (R4, log 2). -/
theorem exec_roundTick (hh : s.held = none) : exec .roundTick s =
    .next (if s.tickDue || s.tickComing then s.tick else s) :=
  congrArg Host.Outcome.next (unlessHeld_free s _ hh)

/-- What a taken tick leaves of the state before it for the round to read. -/
theorem State.prepared_keeps : ∃ q : State, s.comeToTick.tickLimits.tickGuard.markStale = q ∧ q.tb = s.comeToTick.tb ∧
    q.cfg = s.cfg ∧ q.mi = s.mi ∧ q.al = s.al ∧ q.so = s.so ∧ q.gt = s.gt ∧ q.port .network = s.port .network ∧
    q.sp.till = s.sp.till := by
  obtain ⟨jl, tb, arrived⟩ := s.comeToTick_frame
  rw [arrived]
  obtain ⟨ls, dg, bt, sp, h, network, till⟩ := State.prepare_frame { s with jl := jl, tb := tb }
  exact ⟨_, h, rfl, rfl, rfl, rfl, rfl, rfl, network, till⟩

/-- Settles O51: the tick is followed to its prepared state `q`, of which the round's lemmas say each block. -/
theorem roundTickTakesRound : Obligations.RoundTickTakesRound := by
  intro tick s hh hn period reached due coming
  have isDue : s.tickDue = true ↔ due := s.tickDue_iff hn
  have isComing : s.tickComing = true ↔ coming := s.tickComing_iff hn
  have ran := exec_roundTick s hh
  refine ⟨fun hd hc => ?_, fun htaken => ?_⟩
  · rw [ran, if_neg]
    rw [Bool.or_eq_true, isDue, isComing]
    exact not_or.2 ⟨hd, hc⟩
  rw [if_pos (by rw [Bool.or_eq_true, isDue, isComing]; exact htaken)] at ran
  obtain ⟨q, hq, tb, cfg, mi, al, so, gt, port, till⟩ := s.prepared_keeps
  have scheduled : q.tb.nextTick = some tick := (congrArg _ tb).trans (s.comeToTick_nextTick.trans hn)
  have present : q.isPresent .network = s.isPresent .network := by simp only [State.isPresent, port]
  have taken := q.taken_eq scheduled rfl
  obtain ⟨tickBt, tickGt, tickSp⟩ : q.round.scheduleNext.bt = q.round.bt ∧ q.round.scheduleNext.gt = q.round.gt ∧
      q.round.scheduleNext.sp = q.round.sp := ⟨rfl, rfl, rfl⟩
  obtain ⟨tillKept, energy⟩ := q.round_ports
  have agedBays := q.round_blocks.1.trans q.agedForRound_bt
  refine ⟨s.comeToTick.tb, s.comeToTick.jl, s.tick, roundRecord q q.figures q.round.committedSum, ran, fun hd => ?_,
    fun hd => ?_, ?_⟩
  · have : s.tickComing = false := by
      rw [← Bool.not_eq_true, isComing]
      rintro ⟨_, _, notReached, _⟩
      exact notReached hd.2
    rw [s.comeToTick_due this]
    exact ⟨rfl, rfl⟩
  · rw [s.comeToTick_coming (isComing.2 (htaken.resolve_left hd))]
    exact ⟨rfl, rfl⟩
  rw [← s.comeToTick_self, hq, ← tb, ← cfg, ← mi, ← al, ← so, ← gt, ← port, ← till, ← present]
  have ht : s.tick = q.round.scheduleNext := by rw [← hq]; rfl
  rw [ht]
  intro q' f aged charging
  refine ⟨?_, ⟨q.round.bt, q.round.gt, q.round.sp, ?_⟩, ?_, fun hp => ?_, fun hp => ?_, ?_, ?_⟩
  · rw [State.scheduleNext_committedSum]
    unfold roundRecord
    rw [q.csum_eq, q.rstale_eq]
    simp only [q.asksBand_iff]
    rfl
  · rw [taken, climDuty_eq, cfg]
    rfl
  · rw [tickBt, agedBays]
    rfl
  · rw [tickGt, tickSp]
    exact q.round_present hp
  · obtain ⟨hg, hb, targets, network⟩ := q.round_absent hp
    rw [tickBt, tickGt, tickSp]
    exact ⟨hg, hb, targets, network⟩
  · rw [tickSp]
    exact tillKept
  · rw [tickSp, energy]
    rfl

end Sys2Proof.Machine
end

section
/-! READ CHANNELS and the power estimate (R21, R23). -/

namespace Sys2Proof.Machine

variable (s : State) (c : Channel)

/-! ### The estimate (R21) -/

/-- A channel that is disabled, short of two pulses, or silent has no estimate (R21). -/
theorem State.estimate_unmeasured
    (h : (s.chanCfg c).enabled = false ∨ (s.chan c).count ≠ .many ∨ (s.chan c).silent = true) : s.estimate c = 0 := by
  refine if_pos ?_
  obtain h | h | h := h <;> simp [h]

/-- On a capture of two pulses the estimate is the energy of one over the longer of the interval and the time since the
last, until that time exceeds the silence limit (R21). -/
theorem State.estimate_measured {t : Word} {i : Nat} (hl : (s.chan c).lastPulse = some t)
    (hi : (s.chan c).interval = some i) (he : (s.chanCfg c).enabled = true) (hc : (s.chan c).count = .many)
    (hs : (s.chan c).silent = false) : s.estimate c =
      if s.silenceMs < elapsed s.tb.ms t then 0
      else satPower ((s.chanCfg c).weight * 36000 / max i (elapsed s.tb.ms t)) := by
  simp [State.estimate, ChannelState.tau, hl, hi, he, hc, hs]

/-- A channel that has been quiet beyond the silence limit has no estimate (R21). -/
theorem State.estimate_quiet {t : Word} {i : Nat} (hl : (s.chan c).lastPulse = some t)
    (hi : (s.chan c).interval = some i) (quiet : s.silenceMs < elapsed s.tb.ms t) : s.estimate c = 0 := by
  by_cases h : (s.chanCfg c).enabled = false ∨ (s.chan c).count ≠ .many ∨ (s.chan c).silent = true
  · exact s.estimate_unmeasured c h
  · obtain ⟨he, hc, hs⟩ : (s.chanCfg c).enabled = true ∧ (s.chan c).count = .many ∧ (s.chan c).silent = false := by
      simpa using h
    rw [s.estimate_measured c hl hi he hc hs, if_pos quiet]

/-! ### READ CHANNELS (R23) -/

/-- READ CHANNELS' payload reports each channel in its place (R23). -/
theorem State.channelsReply_get : s.channelsReply.chan.get c = s.channelReply c := by
  cases c <;> rfl

/-- The arrival of the request changes nothing that READ CHANNELS reports. -/
theorem State.arrive_energy_channelsReply : (s.arrive .energy).channelsReply = s.channelsReply := by
  rw [State.arrive_energy]
  rfl

/-- Settles O19: the handler's answer read off field by field, and the estimate in its three cases. -/
theorem readChannelsEstimates : Obligations.ReadChannelsEstimates := by
  intro tag s hr
  refine ⟨⟨s.channelsReply, ?_, rfl, rfl, rfl, rfl, rfl, rfl, fun c => ?_⟩, fun b l => ?_, fun c => ⟨?_, ?_⟩⟩
  · rw [← s.arrive_energy_channelsReply]
    exact congrArg _ (takeRequest_energy s tag _ _ hr)
  · rw [s.channelsReply_get]
    exact ⟨rfl, rfl, rfl, rfl, rfl, rfl, rfl, rfl⟩
  · exact congrArg _ (takeRequest_energy s tag _ _ hr)
  · exact s.estimate_unmeasured c
  · exact fun t i hl hi => ⟨s.estimate_quiet c hl hi, fun he hc hs recent =>
      (s.estimate_measured c hl hi he hc hs).trans (if_neg (Nat.not_lt.2 recent))⟩

end Sys2Proof.Machine
end

section
/-! The samples of the channels: filtering and pulses (R17, R18) and what a pulse is used for (R26, R27, R35). -/

namespace Sys2Proof.Machine

/-! ### Filtering (R17, R28) -/

/-- After a sample its level is the candidate, counted one more up to the filter length, or 1 if it is new (R17). -/
theorem filterStep_eq (length : Nat) (filt : FilterState) (sample : Bool) : filterStep length filt sample =
    (sample, match filt with
      | some (level, n) => if level = sample then min (n + 1) length else 1
      | none => 1) := by
  obtain _ | ⟨level, n⟩ := filt
  · rfl
  · by_cases h : level = sample
    · subst h
      exact (if_pos rfl).trans (congrArg _ (if_pos rfl).symm)
    · exact (if_neg h).trans (congrArg _ (if_neg h).symm)

theorem accepts_iff (length : Nat) (filt : FilterState) (accepted : Option Bool) (sample : Bool) :
    accepts length filt accepted sample = true ↔
      (filterStep length filt sample).2 = length ∧ accepted ≠ some sample :=
  decide_eq_true_iff

/-! ### A channel's sample (R17) -/

/-- A channel whose filter has counted a sample (R17). -/
def ChannelState.counted (length : Nat) (level : Bool) (x : ChannelState) : ChannelState :=
  { x with filt := some (filterStep length x.filt level) }

/-- A channel that has accepted a sample's level (R17). -/
def ChannelState.acceptedAt (length : Nat) (level : Bool) (x : ChannelState) : ChannelState :=
  { x.counted length level with accepted := some level }

variable (s : State) (c : Channel) (level : Bool)

theorem State.updChan_updChan (f g : ChannelState → ChannelState) :
    (s.updChan c f).updChan c g = s.updChan c fun x => g (f x) := by
  simp [State.updChan]

/-- The sample of an enabled channel would change its accepted level (R17). -/
def State.ChangesAt (s : State) (c : Channel) (level : Bool) : Prop :=
  (s.chanCfg c).enabled = true ∧ (filterStep (s.chanCfg c).filter (s.chan c).filt level).2 = (s.chanCfg c).filter ∧
    (s.chan c).accepted ≠ some level

/-- The sample would be a pulse: a change from the known inactive level to the active one (R17). -/
def State.PulsesAt (s : State) (c : Channel) (level : Bool) : Prop :=
  s.ChangesAt c level ∧ (s.chan c).accepted ≠ none ∧ level = (s.chanCfg c).activeLevel

/-- The model's test for a pulse is the change at the active level from a known one (R17, log 15). -/
theorem State.pulseDue_iff : s.pulseDue c = true ↔ s.PulsesAt c (s.chanCfg c).activeLevel := by
  simp only [State.pulseDue, State.PulsesAt, State.ChangesAt, Bool.and_eq_true, accepts_iff, Option.isSome_iff_ne_none,
    and_true]
  tauto

/-- The model's test for a change without a pulse is a change that is not a pulse (R17, log 15). -/
theorem State.quietChangeDue_iff : s.quietChangeDue c level = true ↔ s.ChangesAt c level ∧ ¬ s.PulsesAt c level := by
  simp only [State.quietChangeDue, State.PulsesAt, State.ChangesAt, Bool.and_eq_true, accepts_iff, Bool.or_eq_true,
    Option.isNone_iff_eq_none, Bool.not_eq_true', beq_eq_false_iff_ne]
  tauto

theorem State.sampleChannel_disabled (h : (s.chanCfg c).enabled = false) : s.sampleChannel c level = s :=
  if_neg (by simp [h])

/-- A sample that changes no accepted level is counted alone (R17). -/
theorem State.sampleChannel_counted (he : (s.chanCfg c).enabled = true) (h : ¬ s.ChangesAt c level) :
    s.sampleChannel c level = s.updChan c (ChannelState.counted (s.chanCfg c).filter level) := by
  have rejected : ¬ accepts (s.chanCfg c).filter (s.chan c).filt (s.chan c).accepted level = true :=
    fun ha => h ⟨he, (accepts_iff ..).1 ha⟩
  simp only [State.sampleChannel, he, if_true, if_neg rejected]
  rfl

/-- A sample that changes the accepted level is a pulse, or leaves the level alone accepted (R17). -/
theorem State.sampleChannel_changes (h : s.ChangesAt c level) : s.sampleChannel c level =
    if (s.chan c).accepted.isSome && level == (s.chanCfg c).activeLevel then
      (s.updChan c (ChannelState.acceptedAt (s.chanCfg c).filter level)).takePulse c
    else s.updChan c (ChannelState.acceptedAt (s.chanCfg c).filter level) := by
  have accepted := (accepts_iff ..).2 h.2
  simp only [State.sampleChannel, h.1, if_true, if_pos accepted, State.updChan_updChan]
  rfl

theorem State.sampleChannel_accepted (h : s.ChangesAt c level) (hp : ¬ s.PulsesAt c level) :
    s.sampleChannel c level = s.updChan c (ChannelState.acceptedAt (s.chanCfg c).filter level) := by
  refine (s.sampleChannel_changes c level h).trans (if_neg fun known => hp ⟨h, ?_⟩)
  simpa [Option.isSome_iff_ne_none] using known

/-- A pulse is taken on the channel with its new level, and handed to the block that uses it (R17, R18). -/
theorem State.sampleChannel_pulse (h : s.PulsesAt c level) : s.sampleChannel c level =
    (s.updChan c fun x => (x.acceptedAt (s.chanCfg c).filter level).pulse s.tb.ms s.silenceMs).handPulse c := by
  obtain ⟨changes, known, active⟩ := h
  rw [s.sampleChannel_changes c level changes, if_pos (by simp [Option.isSome_iff_ne_none, known, active]),
    State.takePulse, State.updChan_updChan]
  rfl

/-! ### A pulse (R18) and its use (R26, R27, R35) -/

theorem CaptureCount.up_eq (n : CaptureCount) : n.up = if n = .zero then .one else .many := by
  cases n <;> rfl

/-- A GRID_IN pulse in RUN enters the window, saturating (R35). -/
theorem State.importEnergy_eq (weight : Nat) : s.importEnergy weight =
    if s.site = .run then { s with dg := { s.dg with window := s.dg.window.map fun w =>
      { w with e := min (w.e + weight) 4294967295 } } } else s := by
  simp only [State.importEnergy, State.isRun_iff]
  rfl

/-- A BATT_IN pulse adds to the SoC up to the capacity, and marks a clip (R26). -/
theorem State.chargeSoc_eq (weight : Nat) : s.chargeSoc weight = { s with mi := { s.mi with
    soc := min (s.mi.soc + weight) s.cfg.batteryCapacity
    socClipped := s.mi.socClipped || decide (s.cfg.batteryCapacity < s.mi.soc + weight) } } := by
  unfold State.chargeSoc
  split
  · next h => simp [h, h.le]
  · next h => simp [h, Nat.not_lt.1 h]

/-! ### The commands of a channel (log 4, log 15) -/

theorem exec_filterSample_channel (hh : s.held = none) :
    exec (.filterSample (.channel c) level) s = .next (s.sampleChannel c level) :=
  congrArg Host.Outcome.next (unlessHeld_free s _ hh)

theorem exec_pulse (hh : s.held = none) :
    exec (.pulse c) s = .next (if s.pulseDue c then s.sampleChannel c (s.chanCfg c).activeLevel else s) :=
  congrArg Host.Outcome.next (unlessHeld_free s _ hh)

theorem exec_inactiveLevelChange (hh : s.held = none) :
    exec (.inactiveLevelChange c level) s =
      .next (if s.quietChangeDue c level then s.sampleChannel c level else s) :=
  congrArg Host.Outcome.next (unlessHeld_free s _ hh)

/-- Settles O47: each command reduced to the channel's sample, and the sample read off in its four cases. -/
theorem samplesMakePulses : Obligations.SamplesMakePulses := by
  intro c level s hh cfg x n put changes pulses
  have counted : filterStep cfg.filter x.filt level = (level, n) := filterStep_eq ..
  have hc : s.ChangesAt c level ↔ changes :=
    and_congr Iff.rfl (and_congr (by rw [show filterStep _ _ _ = _ from counted]) Iff.rfl)
  have hp : s.PulsesAt c level ↔ pulses := and_congr hc Iff.rfl
  have quiet : s.quietChangeDue c level = true ↔ changes ∧ ¬ pulses := by rw [s.quietChangeDue_iff, hc, hp]
  have putCounted : put { x with filt := some (level, n) } =
      s.updChan c (ChannelState.counted (s.chanCfg c).filter level) := by rw [← counted]; rfl
  have putAccepted : put { x with filt := some (level, n), accepted := some level } =
      s.updChan c (ChannelState.acceptedAt (s.chanCfg c).filter level) := by rw [← counted]; rfl
  rw [exec_filterSample_channel s c level hh, exec_inactiveLevelChange s c level hh, exec_pulse s c hh, putCounted,
    putAccepted]
  refine ⟨fun he => ?_, fun he h => ?_, fun h h' => ?_, fun h => ?_, fun active h => ?_, fun h => ?_⟩
  · rw [s.sampleChannel_disabled c level he]
  · rw [s.sampleChannel_counted c level he (mt hc.1 h)]
  · rw [if_pos (quiet.2 ⟨h, h'⟩), s.sampleChannel_accepted c level (hc.2 h) (mt hp.1 h')]
    exact ⟨rfl, rfl⟩
  · rw [if_neg (mt quiet.1 h)]
  · have due : ¬ s.pulseDue c = true := by
      rw [s.pulseDue_iff, show (s.chanCfg c).activeLevel = level from active.symm, hp]
      exact h
    rw [if_neg due]
  · intro since t after
    have taken : t = s.updChan c fun x => (x.acceptedAt (s.chanCfg c).filter level).pulse s.tb.ms s.silenceMs := by
      simp only [t, ← counted, ← CaptureCount.up_eq]
      rfl
    have handed : s.sampleChannel c level = after := by
      rw [s.sampleChannel_pulse c level (hp.2 h), ← taken]
      cases c with
      | gridIn => exact t.importEnergy_eq _
      | gridOut => rfl
      | canopy => rfl
      | battIn => exact t.chargeSoc_eq _
      | battOut => rfl
    have active : (s.chanCfg c).activeLevel = level := h.2.2.symm
    have due : s.pulseDue c = true := (s.pulseDue_iff c).2 (by rw [active]; exact hp.2 h)
    rw [if_pos due, active, handed]
    exact ⟨rfl, rfl⟩

end Sys2Proof.Machine
end

section
/-! The samples of the bound lines and the SoC they set (R28, R29). -/

namespace Sys2Proof.Machine

variable (s : State) (b : BoundLine) (level : Bool)

/-- The model's test for a change of a bound line (R28, log 15). -/
theorem State.boundChangeDue_iff : s.boundChangeDue b level = true ↔
    (filterStep 8 (s.bound b).filt level).2 = 8 ∧ (s.bound b).accepted ≠ some level :=
  accepts_iff ..

/-- A sample that changes no accepted state is counted alone (R28). -/
theorem State.sampleBound_counted (h : ¬ s.boundChangeDue b level = true) : s.sampleBound b level =
    s.setBound b { s.bound b with filt := some (filterStep 8 (s.bound b).filt level) } :=
  if_neg h

/-- A change to low sets the accepted state alone, and a change to high asserts the line besides (R28, R29). -/
theorem State.sampleBound_changes (h : s.boundChangeDue b level = true) : s.sampleBound b level =
    let s1 := s.setBound b ⟨some level, some (filterStep 8 (s.bound b).filt level)⟩
    if level then s1.assertBound b else s1 :=
  if_pos h

theorem State.boundSoc_eq : s.boundSoc b = if b = .bfull then s.cfg.batteryCapacity else 0 := by
  cases b <;> rfl

/-! ### The commands of a bound line (log 4, log 15) -/

theorem exec_filterSample_bound (hh : s.held = none) :
    exec (.filterSample (.bound b) level) s = .next (s.sampleBound b level) :=
  congrArg Host.Outcome.next (unlessHeld_free s _ hh)

/-- The events of the two levels are one deciding sample (log 15). -/
theorem exec_boundChange (hh : s.held = none) :
    (if level = true then exec (.boundAssertion b) s else exec (.boundDeassertion b) s) =
      .next (if s.boundChangeDue b level then s.sampleBound b level else s) := by
  cases level with
  | true => exact congrArg Host.Outcome.next (unlessHeld_free s _ hh)
  | false => exact congrArg Host.Outcome.next (unlessHeld_free s _ hh)

/-- Settles O48: both commands reduced to the line's sample, and the sample read off in its three cases. -/
theorem boundSamplesSetSoc : Obligations.BoundSamplesSetSoc := by
  intro b level s hh x n put changes event sample
  have line : x = s.bound b := by cases b <;> rfl
  have counted : filterStep 8 x.filt level = (level, n) := filterStep_eq ..
  have due : s.boundChangeDue b level = true ↔ changes := by
    rw [s.boundChangeDue_iff, ← line, counted]
  have placed (y : BoundState) : s.setBound b y = { s with mi := put y } := by cases b <;> rfl
  have sampled : sample = .next (s.sampleBound b level) := exec_filterSample_bound s b level hh
  have taken : event = .next (if s.boundChangeDue b level then s.sampleBound b level else s) :=
    exec_boundChange s b level hh
  rw [sampled, taken]
  refine ⟨fun h => ?_, fun h low => ?_, fun h high => ?_⟩
  · rw [if_neg (mt due.1 h), s.sampleBound_counted b level (mt due.1 h), ← line, counted, placed]
    exact ⟨rfl, rfl⟩
  · rw [if_pos (due.2 h), s.sampleBound_changes b level (due.2 h), ← line, counted]
    subst low
    exact ⟨congrArg _ (placed _), rfl⟩
  · rw [if_pos (due.2 h), s.sampleBound_changes b level (due.2 h), ← line, counted, ← s.boundSoc_eq b]
    subst high
    refine ⟨congrArg _ ?_, rfl⟩
    exact (congrArg (State.assertBound b) (placed _)).trans (by cases b <;> rfl)

end Sys2Proof.Machine
end

section
/-! The Demand Guard (chapter 3): the remaining time and the allowance of a window (R37, R38), the window end (R33, R36, R39,
R40) and READ WINDOWS (R43). -/

namespace Sys2Proof.Machine

variable (s : State) (w : Window)

/-! ### The remaining time (R37) -/

/-- The minutes a clock still has to count to an end minute that lies ahead on this day or on the next. -/
theorem State.minutesTo_clock {stop : Nat} (hs : stop < 1440) (hm : s.tb.minuteOfDay < 1440)
    (ne : stop ≠ s.tb.minuteOfDay) :
    s.minutesTo .clock stop =
      if s.tb.minuteOfDay < stop then stop - s.tb.minuteOfDay else stop + 1440 - s.tb.minuteOfDay := by
  show (stop + 1440 - s.tb.minuteOfDay) % 1440 = _
  split <;> omega

/-- While its boundary is ahead, a window's remaining time is the time to it in seconds, rounded up. -/
theorem State.remaining_bounds {m : Nat} (hm : s.minutesTo w.basis w.endMinute = m) (ahead : s.phase w.basis < m * 60000) :
    1 ≤ s.remaining w ∧ (s.remaining w - 1) * 1000 < m * 60000 - s.phase w.basis ∧
      m * 60000 - s.phase w.basis ≤ s.remaining w * 1000 := by
  unfold State.remaining State.remainingTo ceilDiv
  rw [hm]
  omega

/-! ### The allowance (R38) -/

/-- With the guard off the Active import cap alone holds. -/
theorem State.windowAllowance_off (off : w.d = 0) : s.windowAllowance w = s.ls.active.importCap :=
  if_pos off

/-- Once the limit energy is reached nothing more is allowed. -/
theorem State.windowAllowance_reached (on : w.d ≠ 0) (reached : w.elim ≤ w.e) : s.windowAllowance w = 0 :=
  (if_neg on).trans (if_pos reached)

/-- Below the limit energy, the power that would reach it at the boundary is allowed, up to the import cap. -/
theorem State.windowAllowance_below (on : w.d ≠ 0) (below : w.e < w.elim) :
    s.windowAllowance w = min s.ls.active.importCap ((w.elim - w.e) * 36 / s.remaining w) :=
  (if_neg on).trans (if_neg (Nat.not_le.2 below))

theorem State.windowAllowance_le_importCap : s.windowAllowance w ≤ s.ls.active.importCap := by
  by_cases off : w.d = 0
  · exact (s.windowAllowance_off w off).le
  · obtain reached | below := le_or_gt w.elim w.e
    · exact (s.windowAllowance_reached w off reached).trans_le (Nat.zero_le _)
    · exact (s.windowAllowance_below w off below).trans_le (Nat.min_le_left _ _)

/-- Settles O18: the allowance in its three cases, and the remaining time on each basis. -/
theorem allowanceFollowsWindow : Obligations.AllowanceFollowsWindow := by
  intro w s
  refine ⟨s.windowAllowance_off w, s.windowAllowance_reached w, s.windowAllowance_below w,
    s.windowAllowance_le_importCap w, fun mono ahead phase => ?_, fun clock hs hm ne phase => ?_⟩
  · have minutes : s.minutesTo w.basis w.endMinute = w.endMinute - s.tb.monoMin := by rw [mono]; rfl
    have bounds := s.remaining_bounds w minutes
    rw [mono] at bounds
    exact bounds (show s.tb.monoPhase < _ by omega)
  · intro m
    have minutes : s.minutesTo w.basis w.endMinute = m := by rw [clock]; exact s.minutesTo_clock hs hm ne
    have positive : 1 ≤ m := by simp only [m]; split <;> omega
    have bounds := s.remaining_bounds w minutes
    rw [clock] at bounds
    exact (bounds (show s.tb.clockPhase < _ by omega)).2

/-! ### The window end (R39) -/

theorem State.counter_eq (b : Basis) : s.counter b = if b = .clock then s.tb.minuteOfDay else s.tb.monoMin := by
  cases b <;> rfl

/-- The next aligned boundary, as a minute of its basis (R33). -/
theorem nextBoundary_eq {minutes counter : Nat} (basis : Basis) (h : (counter / minutes + 1) * minutes ≤ Config.maxWord) :
    nextBoundary minutes basis counter =
      if basis = .clock then (counter / minutes + 1) * minutes % 1440 else (counter / minutes + 1) * minutes := by
  cases basis with
  | clock => rfl
  | monotonic => exact if_pos h

/-- In CONFIGURE, or away from the window's end minute, no window ends. -/
theorem State.endWindow_idle {w : Window} (hw : s.dg.window = some w)
    (idle : s.site = .configure ∨ s.counter w.basis ≠ w.endMinute) : s.endWindow = s := by
  unfold State.endWindow
  rw [hw]
  refine if_neg fun due => ?_
  obtain ⟨run, counted⟩ : s.site = .run ∧ s.counter w.basis = w.endMinute := by
    simpa only [Bool.and_eq_true, State.isRun_iff, decide_eq_true_eq] using due
  obtain configure | early := idle
  · exact nomatch configure.symm.trans run
  · exact early counted

/-- In RUN, on its end minute, a window is recorded with its planned length and one of full length opens. -/
theorem State.endWindow_due {w : Window} (hw : s.dg.window = some w) (run : s.site = .run)
    (counted : s.counter w.basis = w.endMinute) :
    let x := historyEntry w w.length false
    let t : State := { s with dg := {
      window := some (s.newWindow s.cfg.windowLength), history := Machine.appendHistory s.dg.history x } }
    s.endWindow = if x.isOver then t.raise .energy .demandExceeded (.num w.startMinute) (.basis w.basis) else t := by
  intro x t
  have due : (s.isRun && decide (s.counter w.basis = w.endMinute)) = true := by
    rw [Bool.and_eq_true, s.isRun_iff, decide_eq_true_eq]
    exact ⟨run, counted⟩
  unfold State.endWindow
  rw [hw]
  refine (if_pos due).trans ?_
  rw [State.recordWindow_eq]
  cases x.isOver <;> rfl

theorem exec_windowEnd (hh : s.held = none) : exec .windowEnd s = .next s.endWindow :=
  congrArg Host.Outcome.next (unlessHeld_free s _ hh)

/-- Settles O45: the command reduced to the window end, not due and due. -/
theorem windowEndRecordsAndReopens : Obligations.WindowEndRecordsAndReopens := by
  intro w s hh hw counter
  have counted (b : Basis) : s.counter b = counter b := s.counter_eq b
  rw [exec_windowEnd s hh]
  refine ⟨fun idle => ?_, fun run ends _ => ?_⟩
  · rw [← counted] at idle
    rw [s.endWindow_idle hw idle]
  · intro x basis m boundary small t
    have stop : s.windowEndMinute = if basis = .clock then boundary % 1440 else boundary :=
      (congrArg (nextBoundary m basis) (counted basis)).trans (nextBoundary_eq basis small)
    have opened : s.newWindow s.cfg.windowLength = ⟨basis, counter basis,
        if basis = .clock then boundary % 1440 else boundary, s.cfg.windowLength, s.ls.active.demandLimit,
        s.ls.active.demandLimit * s.cfg.windowLength / 36, 0⟩ := by
      rw [← stop, ← counted]
      rfl
    rw [s.endWindow_due hw run ((counted _).trans ends), opened]
    rfl

/-! ### READ WINDOWS (R43) -/

/-- The arrival of the request changes nothing that READ WINDOWS reports. -/
theorem State.arrive_energy_windowsReply : (s.arrive .energy).windowsReply = s.windowsReply := by
  rw [State.arrive_energy]
  rfl

/-- Settles O17: the handler's answer to an empty payload and to any other. -/
theorem readWindowsReturns : Obligations.ReadWindowsReturns := by
  intro tag s hr
  refine ⟨?_, fun b l => congrArg _ (takeRequest_energy s tag _ _ hr)⟩
  change _ = Host.Outcome.next ((s.arrive .energy).respond .energy tag 0x18 .ok (.windows s.windowsReply))
  rw [← s.arrive_energy_windowsReply]
  exact congrArg _ (takeRequest_energy s tag _ _ hr)

end Sys2Proof.Machine
end

section
/-! The bindings of bays and sessions, on the Bay Table and the Session Table alone: what an opening, a closing, a receipt and
a change of an idle bay keep of them (R47, R55, R114, R125). -/

namespace Sys2Proof.Machine

/-! ### Records found by their number -/

/-- A change of the one record with a key, in a list of distinct keys. -/
theorem mem_map_keyed {α : Type} {key : α → Nat} {l : List α} (hl : (l.map key).Nodup) {a : α} (ha : a ∈ l) (f : α → α)
    (c : α) : (c ∈ l.map fun b => if key b = key a then f b else b) ↔ c = f a ∨ (c ∈ l ∧ key c ≠ key a) := by
  rw [List.mem_map]
  constructor
  · rintro ⟨b, hb, rfl⟩
    by_cases h : key b = key a
    · rw [if_pos h, List.inj_on_of_nodup_map hl hb ha h]
      exact .inl rfl
    · rw [if_neg h]
      exact .inr ⟨hb, h⟩
  · rintro (rfl | ⟨hc, h⟩)
    · exact ⟨a, ha, if_pos rfl⟩
    · exact ⟨c, hc, if_neg h⟩

/-- A record without its key among a list's keys is in no place of it. -/
theorem filter_map_keyed {α : Type} {key : α → Nat} {n : Nat} (f : α → α) (hf : ∀ a, key (f a) = key a) (l : List α) :
    (l.map fun a => if key a = n then f a else a).filter (fun a => decide (key a ≠ n)) =
      l.filter fun a => decide (key a ≠ n) := by
  induction l with
  | nil => rfl
  | cons a l ih =>
    by_cases h : key a = n
    · simpa [h, hf] using ih
    · simpa [h] using ih

/-- One record leaves a list of distinct keys that holds its key. -/
theorem length_filter_keyed {α : Type} {key : α → Nat} {l : List α} (hl : (l.map key).Nodup) {a : α} (ha : a ∈ l) :
    (l.filter fun b => decide (key b ≠ key a)).length + 1 = l.length := by
  induction l with
  | nil => exact absurd ha List.not_mem_nil
  | cons b l ih =>
    obtain ⟨first, rest⟩ := List.nodup_cons.1 hl
    rcases List.mem_cons.1 ha with rfl | ha
    · have all : l.filter (fun b => decide (key b ≠ key a)) = l :=
        List.filter_eq_self.2 fun c hc => decide_eq_true fun h => first (List.mem_map.2 ⟨c, hc, h⟩)
      simp only [List.filter_cons, ne_eq, not_true, decide_false, Bool.false_eq_true, if_false, List.length_cons, all]
    · have other : key b ≠ key a := fun h => first (List.mem_map.2 ⟨a, ha, h.symm⟩)
      simp only [List.filter_cons, decide_eq_true other, if_true, List.length_cons, ih rest ha]

/-! ### What the laws say of the tables -/

/-- A bay charges while it is ACTIVE or FALLBACK (R47). -/
def BayRec.Charges (b : BayRec) : Prop :=
  b.state = .active ∨ b.state = .fallback

/-- The record of a bay names a session (R47). -/
def BayTable.Holds (x : BayTable) (k n : Nat) : Prop :=
  ∃ b ∈ x.bays, b.number = k ∧ b.session = some n

/-- A bay is WAITING (R55). -/
def BayTable.Waits (x : BayTable) (k : Nat) : Prop :=
  ∃ b ∈ x.bays, b.number = k ∧ b.state = .waiting

/-- An OPEN session has a number and names a bay (R114). -/
def SessionTable.Opened (x : SessionTable) (k n : Nat) : Prop :=
  ∃ y ∈ x.sessions, y.bay = k ∧ y.number = n ∧ y.state = .opened

/-- A session of a number is PENDING_RECEIPT (R125). -/
def SessionTable.Pends (x : SessionTable) (n : Nat) : Prop :=
  ∃ y ∈ x.sessions, y.number = n ∧ y.state = .pendingReceipt

/-- The two tables fit each other: what State.BindingsOk says of them but for their sizes, with distinct bay numbers, distinct
session numbers and the next session number in range. -/
structure Joined (bt : BayTable) (st : SessionTable) : Prop where
  bays : (bt.bays.map (·.number)).Nodup
  distinct : (st.sessions.map (·.number)).Nodup
  next : 1 ≤ st.nextSession ∧ st.nextSession ≤ 65535
  naming : ∀ b ∈ bt.bays, b.Charges ↔ b.session.isSome = true
  holds : ∀ k n, bt.Holds k n ↔ st.Opened k n
  order : st.pendingOrder.Nodup
  pending : ∀ n, n ∈ st.pendingOrder ↔ st.Pends n
  list : bt.slotWait.Nodup
  waiting : ∀ k, k ∈ bt.slotWait ↔ bt.Waits k

namespace Joined

variable {bt : BayTable} {st : SessionTable} (h : Joined bt st)
include h

theorem bay_unique {a b : BayRec} (ha : a ∈ bt.bays) (hb : b ∈ bt.bays) (hn : a.number = b.number) : a = b :=
  List.inj_on_of_nodup_map h.bays ha hb hn

theorem session_unique {x y : Session} (hx : x ∈ st.sessions) (hy : y ∈ st.sessions) (hn : x.number = y.number) : x = y :=
  List.inj_on_of_nodup_map h.distinct hx hy hn

/-- A bay on the Slot Wait List is WAITING. -/
theorem mem_list_iff {b : BayRec} (hb : b ∈ bt.bays) : b.number ∈ bt.slotWait ↔ b.state = .waiting := by
  rw [h.waiting]
  refine ⟨fun ⟨c, hc, hn, hw⟩ => ?_, fun hw => ⟨b, hb, rfl, hw⟩⟩
  rwa [← h.bay_unique hc hb hn]

theorem not_mem_list {b : BayRec} (hb : b ∈ bt.bays) (hw : b.state ≠ .waiting) : b.number ∉ bt.slotWait :=
  fun hk => hw ((h.mem_list_iff hb).1 hk)

theorem session_none {b : BayRec} (hb : b ∈ bt.bays) (hc : ¬ b.Charges) : b.session = none := by
  rw [h.naming b hb] at hc
  simpa using hc

/-- What a bay's record names is what its table holds for it. -/
theorem holds_iff {b : BayRec} (hb : b ∈ bt.bays) (n : Nat) : bt.Holds b.number n ↔ b.session = some n := by
  refine ⟨fun ⟨c, hc, hn, hs⟩ => ?_, fun hs => ⟨b, hb, rfl, hs⟩⟩
  rwa [← h.bay_unique hc hb hn]

/-- Two bays do not name one session. -/
theorem holds_unique {j k n : Nat} (hj : bt.Holds j n) (hk : bt.Holds k n) : j = k := by
  obtain ⟨x, hx, rfl, hxn, _⟩ := (h.holds _ _).1 hj
  obtain ⟨y, hy, rfl, hyn, _⟩ := (h.holds _ _).1 hk
  rw [h.session_unique hx hy (hxn.trans hyn.symm)]

/-- The session that a bay names is in the table, OPEN and with that bay. -/
theorem opened_of_session {b : BayRec} (hb : b ∈ bt.bays) {n : Nat} (hs : b.session = some n) :
    ∃ x ∈ st.sessions, x.bay = b.number ∧ x.number = n ∧ x.state = .opened :=
  (h.holds _ _).1 ⟨b, hb, rfl, hs⟩

/-- An OPEN session is not PENDING_RECEIPT. -/
theorem not_pends_of_opened {k n : Nat} (ho : st.Opened k n) : ¬ st.Pends n := by
  obtain ⟨x, hx, _, hxn, hxo⟩ := ho
  rintro ⟨y, hy, hyn, hyp⟩
  rw [h.session_unique hy hx (hyn.trans hxn.symm), hxo] at hyp
  exact nomatch hyp

end Joined

/-! ### One bay's record changed -/

/-- The table with one bay's record changed; State.updBay leaves it so. -/
def BayTable.setBay (k : Nat) (f : BayRec → BayRec) (x : BayTable) : BayTable :=
  { x with bays := x.bays.map fun b => if b.number = k then f b else b }

theorem State.updBay_bt (s : State) (k : Nat) (f : BayRec → BayRec) : (s.updBay k f).bt = s.bt.setBay k f := rfl

variable {bt : BayTable} {st : SessionTable} {b : BayRec} {f : BayRec → BayRec}

theorem BayTable.setBay_numbers (hf : ∀ a, (f a).number = a.number) (k : Nat) (bt : BayTable) :
    (bt.setBay k f).bays.map (·.number) = bt.bays.map (·.number) := by
  rw [BayTable.setBay, List.map_map]
  refine List.map_congr_left fun a _ => ?_
  simp only [Function.comp_apply, apply_ite BayRec.number, hf, ite_self]

namespace Joined

variable (h : Joined bt st) (hb : b ∈ bt.bays)
include h hb

theorem mem_setBay (c : BayRec) : c ∈ (bt.setBay b.number f).bays ↔ c = f b ∨ (c ∈ bt.bays ∧ c.number ≠ b.number) :=
  mem_map_keyed (key := BayRec.number) h.bays hb f c

theorem setBay_holds (hf : ∀ a, (f a).number = a.number) (k n : Nat) : (bt.setBay b.number f).Holds k n ↔
    (k = b.number ∧ (f b).session = some n) ∨ (k ≠ b.number ∧ bt.Holds k n) := by
  constructor
  · rintro ⟨c, hc, rfl, hs⟩
    rcases (h.mem_setBay hb c).1 hc with rfl | ⟨hc, hn⟩
    · exact .inl ⟨hf b, hs⟩
    · exact .inr ⟨hn, c, hc, rfl, hs⟩
  · rintro (⟨rfl, hs⟩ | ⟨hn, c, hc, rfl, hs⟩)
    · exact ⟨f b, (h.mem_setBay hb _).2 (.inl rfl), hf b, hs⟩
    · exact ⟨c, (h.mem_setBay hb c).2 (.inr ⟨hc, hn⟩), rfl, hs⟩

theorem setBay_waits (hf : ∀ a, (f a).number = a.number) (k : Nat) : (bt.setBay b.number f).Waits k ↔
    (k = b.number ∧ (f b).state = .waiting) ∨ (k ≠ b.number ∧ k ∈ bt.slotWait) := by
  rw [h.waiting]
  constructor
  · rintro ⟨c, hc, rfl, hs⟩
    rcases (h.mem_setBay hb c).1 hc with rfl | ⟨hc, hn⟩
    · exact .inl ⟨hf b, hs⟩
    · exact .inr ⟨hn, c, hc, rfl, hs⟩
  · rintro (⟨rfl, hs⟩ | ⟨hn, c, hc, rfl, hs⟩)
    · exact ⟨f b, (h.mem_setBay hb _).2 (.inl rfl), hf b, hs⟩
    · exact ⟨c, (h.mem_setBay hb c).2 (.inr ⟨hc, hn⟩), rfl, hs⟩

/-- One bay's record changes, with the Slot Wait List and the Session Table: the tables fit again if the record fits its own
state, and the sessions and the list follow it. -/
theorem change (hf : ∀ a, (f a).number = a.number) {w : List Nat} {st' : SessionTable}
    (naming : (f b).Charges ↔ (f b).session.isSome = true)
    (list : w.Nodup)
    (waiting : ∀ k, k ∈ w ↔ (k = b.number ∧ (f b).state = .waiting) ∨ (k ≠ b.number ∧ k ∈ bt.slotWait))
    (distinct : (st'.sessions.map (·.number)).Nodup)
    (next : 1 ≤ st'.nextSession ∧ st'.nextSession ≤ 65535)
    (opened : ∀ k n, st'.Opened k n ↔
      (k = b.number ∧ (f b).session = some n) ∨ (k ≠ b.number ∧ st.Opened k n))
    (order : st'.pendingOrder.Nodup)
    (pending : ∀ n, n ∈ st'.pendingOrder ↔ st'.Pends n) :
    Joined { bt.setBay b.number f with slotWait := w } st' where
  bays := by
    show ((bt.setBay b.number f).bays.map (·.number)).Nodup
    rw [BayTable.setBay_numbers hf]
    exact h.bays
  distinct := distinct
  next := next
  naming c hc := by
    rcases (h.mem_setBay hb c).1 hc with rfl | ⟨hc, _⟩
    · exact naming
    · exact h.naming c hc
  holds k n := by
    rw [opened, ← h.holds]
    exact h.setBay_holds hb hf k n
  order := order
  pending := pending
  list := list
  waiting k := (waiting k).trans (h.setBay_waits hb hf k).symm

/-- A bay that names no session goes to another state that names none (R47, R50, R55, R59). -/
theorem idle (hf : ∀ a, (f a).number = a.number) (hs : b.session = none) (hc : ¬ (f b).Charges)
    (hn : (f b).session = none) {w : List Nat} (list : w.Nodup)
    (waiting : ∀ k, k ∈ w ↔ (k = b.number ∧ (f b).state = .waiting) ∨ (k ≠ b.number ∧ k ∈ bt.slotWait)) :
    Joined { bt.setBay b.number f with slotWait := w } st := by
  refine h.change hb hf (by simp [hc, hn]) list waiting h.distinct h.next (fun k n => ?_) h.order h.pending
  have none : ¬ st.Opened b.number n := by
    rw [← h.holds, h.holds_iff hb, hs]
    exact nofun
  rw [hn]
  refine ⟨fun ho => .inr ⟨?_, ho⟩, fun ho => (ho.resolve_left fun hx => nomatch hx.2).2⟩
  rintro rfl
  exact none ho

/-- A session opens for a bay that names none, which is not on the Slot Wait List any more (R50, R55, R117). -/
theorem opening (hf : ∀ a, (f a).number = a.number) (hs : b.session = none) {x : Session} (hbay : x.bay = b.number)
    (ho : x.state = .opened) (fresh : x.number ∉ st.sessions.map (·.number)) (hc : (f b).Charges)
    (hx : (f b).session = some x.number) {w : List Nat} (list : w.Nodup)
    (waiting : ∀ k, k ∈ w ↔ k ≠ b.number ∧ k ∈ bt.slotWait) {m : Nat} (next : 1 ≤ m ∧ m ≤ 65535) :
    Joined { bt.setBay b.number f with slotWait := w }
      { st with sessions := st.sessions ++ [x], nextSession := m } := by
  have charging : (f b).state ≠ .waiting := fun e => by
    rcases hc with hc | hc <;> exact nomatch hc.symm.trans e
  have none (n : Nat) : ¬ st.Opened b.number n := by
    rw [← h.holds, h.holds_iff hb, hs]
    exact nofun
  refine h.change hb hf (by simp [hc, hx]) list (fun k => by simp [charging, waiting]) ?_ next (fun k n => ?_) h.order
    fun n => ?_
  · rw [List.map_append, List.nodup_append]
    refine ⟨h.distinct, List.nodup_singleton _, fun a ha c hc => ?_⟩
    rw [List.map_singleton, List.mem_singleton] at hc
    rintro rfl
    exact fresh (hc ▸ ha)
  · rw [hx, Option.some_inj]
    constructor
    · rintro ⟨y, hy, rfl, rfl, hyo⟩
      rcases List.mem_append.1 hy with hy | hy
      · exact .inr ⟨fun e => none _ ⟨y, hy, e, rfl, hyo⟩, y, hy, rfl, rfl, hyo⟩
      · rw [List.mem_singleton.1 hy]
        exact .inl ⟨hbay, rfl⟩
    · rintro (⟨rfl, rfl⟩ | ⟨_, y, hy, hyb, hyn, hyo⟩)
      · exact ⟨x, List.mem_append_right _ (List.mem_singleton_self x), hbay, rfl, ho⟩
      · exact ⟨y, List.mem_append_left _ hy, hyb, hyn, hyo⟩
  · rw [h.pending]
    constructor
    · rintro ⟨y, hy, hyn⟩
      exact ⟨y, List.mem_append_left _ hy, hyn⟩
    · rintro ⟨y, hy, hyn, hyp⟩
      rcases List.mem_append.1 hy with hy | hy
      · exact ⟨y, hy, hyn, hyp⟩
      · rw [List.mem_singleton.1 hy, ho] at hyp
        exact nomatch hyp

end Joined

/-! ### Sessions that leave the table or wait for a receipt -/

/-- The table without the session of a number; State.dropSession leaves it so. -/
def SessionTable.drop (n : Nat) (x : SessionTable) : SessionTable :=
  { x with sessions := x.sessions.filter fun y => decide (y.number ≠ n) }

theorem State.dropSession_st (s : State) (n : Nat) : (s.dropSession n).st = s.st.drop n := rfl

/-- The table with one session's record changed; State.updSession leaves it so. -/
def SessionTable.setSession (n : Nat) (g : Session → Session) (x : SessionTable) : SessionTable :=
  { x with sessions := x.sessions.map fun y => if y.number = n then g y else y }

theorem State.updSession_st (s : State) (n : Nat) (g : Session → Session) : (s.updSession n g).st = s.st.setSession n g :=
  rfl

/-- The table with a session changed and at the end of the pending order (R125). -/
def SessionTable.queue (n : Nat) (g : Session → Session) (x : SessionTable) : SessionTable :=
  { x.setSession n g with pendingOrder := x.pendingOrder ++ [n] }

theorem SessionTable.setSession_numbers {g : Session → Session} (hg : ∀ y, (g y).number = y.number) (n : Nat)
    (x : SessionTable) : (x.setSession n g).sessions.map (·.number) = x.sessions.map (·.number) := by
  rw [SessionTable.setSession, List.map_map]
  refine List.map_congr_left fun a _ => ?_
  simp only [Function.comp_apply, apply_ite Session.number, hg, ite_self]

theorem SessionTable.setSession_length (n : Nat) (g : Session → Session) (x : SessionTable) :
    (x.setSession n g).sessions.length = x.sessions.length :=
  List.length_map _

/-- A session that leaves the table may have changed before. -/
theorem SessionTable.setSession_drop {g : Session → Session} (hg : ∀ y, (g y).number = y.number) (n : Nat)
    (x : SessionTable) : (x.setSession n g).drop n = x.drop n :=
  congrArg (fun l => { x with sessions := l }) (filter_map_keyed (key := Session.number) g hg x.sessions)

/-- Two changes of one session are one change. -/
theorem SessionTable.setSession_queue {g : Session → Session} (hg : ∀ y, (g y).number = y.number) (n : Nat)
    (f : Session → Session) (x : SessionTable) : (x.setSession n g).queue n f = x.queue n fun y => f (g y) := by
  refine congrArg (fun l => { x with sessions := l, pendingOrder := x.pendingOrder ++ [n] }) ?_
  refine List.map_map.trans (List.map_congr_left fun a _ => ?_)
  by_cases ha : a.number = n
  · simp only [Function.comp_apply, ha, if_true, hg]
  · simp only [Function.comp_apply, ha, if_false]

theorem SessionTable.mem_drop (x : SessionTable) (n : Nat) (y : Session) :
    y ∈ (x.drop n).sessions ↔ y ∈ x.sessions ∧ y.number ≠ n := by
  simp [SessionTable.drop]

theorem SessionTable.drop_opened (x : SessionTable) (m k n : Nat) :
    (x.drop m).Opened k n ↔ n ≠ m ∧ x.Opened k n := by
  constructor
  · rintro ⟨y, hy, rfl, rfl, ho⟩
    obtain ⟨hy, hn⟩ := (x.mem_drop m y).1 hy
    exact ⟨hn, y, hy, rfl, rfl, ho⟩
  · rintro ⟨hn, y, hy, rfl, rfl, ho⟩
    exact ⟨y, (x.mem_drop m y).2 ⟨hy, hn⟩, rfl, rfl, ho⟩

theorem SessionTable.drop_pends (x : SessionTable) (m n : Nat) : (x.drop m).Pends n ↔ n ≠ m ∧ x.Pends n := by
  constructor
  · rintro ⟨y, hy, rfl, hp⟩
    obtain ⟨hy, hn⟩ := (x.mem_drop m y).1 hy
    exact ⟨hn, y, hy, rfl, hp⟩
  · rintro ⟨hn, y, hy, rfl, hp⟩
    exact ⟨y, (x.mem_drop m y).2 ⟨hy, hn⟩, rfl, hp⟩

theorem SessionTable.drop_distinct {x : SessionTable} (hx : (x.sessions.map (·.number)).Nodup) (n : Nat) :
    ((x.drop n).sessions.map (·.number)).Nodup :=
  hx.sublist (List.filter_sublist.map _)

namespace Joined

/-- The table of sessions without the one that a bay names: no other bay is concerned. -/
theorem opened_without (h : Joined bt st) (hb : b ∈ bt.bays) {n : Nat} (hs : b.session = some n) (k m : Nat) :
    m ≠ n ∧ st.Opened k m ↔ k ≠ b.number ∧ st.Opened k m := by
  rw [← h.holds]
  refine and_congr_left fun hk => not_congr ⟨?_, ?_⟩
  · rintro rfl
    exact h.holds_unique hk ((h.holds_iff hb m).2 hs)
  · rintro rfl
    exact Option.some.inj (((h.holds_iff hb m).1 hk).symm.trans hs)

section Closing

variable (h : Joined bt st) (hb : b ∈ bt.bays) {n : Nat} (hs : b.session = some n) (hf : ∀ a, (f a).number = a.number)
  (hc : ¬ (f b).Charges) (hw : (f b).state ≠ .waiting) (hn : (f b).session = none)
include h hb hs hf hc hw hn

/-- A bay's session closes and leaves the table with its receipt (R124, R125). -/
theorem closing : Joined (bt.setBay b.number f) (st.drop n) := by
  obtain ⟨x, hx, hxb, hxn, hxo⟩ := h.opened_of_session hb hs
  have off : b.number ∉ bt.slotWait := h.not_mem_list hb fun e => by
    have := (h.naming b hb).2 (by rw [hs]; rfl)
    rcases this with hc | hc <;> exact nomatch hc.symm.trans e
  refine h.change (w := bt.slotWait) hb hf (by simp [hc, hn]) h.list (fun k => ?_) (SessionTable.drop_distinct h.distinct n)
    h.next (fun k m => ?_) h.order fun m => ?_
  · simp only [hw, and_false, false_or, iff_and_self]
    rintro hk rfl
    exact off hk
  · rw [SessionTable.drop_opened, h.opened_without hb hs, hn]
    simp
  · rw [SessionTable.drop_pends, ← h.pending]
    refine iff_and_self.2 ?_
    rintro hm rfl
    exact h.not_pends_of_opened ⟨x, hx, hxb, hxn, hxo⟩ ((h.pending _).1 hm)

/-- A bay's session closes and waits for its receipt at the end of the pending order (R124, R125). -/
theorem queueing {g : Session → Session} (hg : ∀ y, (g y).number = y.number) (hp : ∀ y, (g y).state = .pendingReceipt) :
    Joined (bt.setBay b.number f) (st.queue n g) := by
  obtain ⟨x, hx, hxb, rfl, hxo⟩ := h.opened_of_session hb hs
  have mem (y : Session) : y ∈ (st.queue x.number g).sessions ↔ y = g x ∨ (y ∈ st.sessions ∧ y.number ≠ x.number) :=
    mem_map_keyed (key := Session.number) h.distinct hx g y
  have off : b.number ∉ bt.slotWait := h.not_mem_list hb fun e => by
    have := (h.naming b hb).2 (by rw [hs]; rfl)
    rcases this with hc | hc <;> exact nomatch hc.symm.trans e
  refine h.change (w := bt.slotWait) hb hf (by simp [hc, hn]) h.list (fun k => ?_) ?_ h.next (fun k m => ?_) ?_ fun m => ?_
  · simp only [hw, and_false, false_or, iff_and_self]
    rintro hk rfl
    exact off hk
  · exact (SessionTable.setSession_numbers hg x.number st).symm ▸ h.distinct
  · rw [hn, ← h.opened_without hb hs]
    constructor
    · rintro ⟨y, hy, rfl, rfl, ho⟩
      rcases (mem y).1 hy with rfl | ⟨hy, hne⟩
      · exact nomatch (hp x).symm.trans ho
      · exact .inr ⟨hne, y, hy, rfl, rfl, ho⟩
    · rintro (⟨_, e⟩ | ⟨hne, y, hy, rfl, rfl, ho⟩)
      · exact nomatch e
      · exact ⟨y, (mem y).2 (.inr ⟨hy, hne⟩), rfl, rfl, ho⟩
  · refine List.nodup_append.2 ⟨h.order, List.nodup_singleton _, fun a ha c hc => ?_⟩
    rw [List.mem_singleton.1 hc]
    rintro rfl
    exact h.not_pends_of_opened ⟨x, hx, hxb, rfl, hxo⟩ ((h.pending _).1 ha)
  · rw [SessionTable.queue, List.mem_append, h.pending, List.mem_singleton]
    constructor
    · rintro (⟨y, hy, rfl, hyp⟩ | rfl)
      · refine ⟨y, (mem y).2 (.inr ⟨hy, fun e => ?_⟩), rfl, hyp⟩
        rw [h.session_unique hy hx e, hxo] at hyp
        exact nomatch hyp
      · exact ⟨g x, (mem _).2 (.inl rfl), hg x, hp x⟩
    · rintro ⟨y, hy, rfl, hyp⟩
      rcases (mem y).1 hy with rfl | ⟨hy, _⟩
      · exact .inr (hg x)
      · exact .inl ⟨y, hy, rfl, hyp⟩

end Closing

/-- The oldest pending session leaves the pending order and, with its receipt, the table (R126). -/
theorem settling (h : Joined bt st) {n : Nat} {rest : List Nat} (ho : st.pendingOrder = n :: rest) :
    Joined bt { st.drop n with pendingOrder := rest } := by
  have order := h.order
  rw [ho] at order
  obtain ⟨first, order⟩ := List.nodup_cons.1 order
  obtain ⟨x, hx, hxn, hxp⟩ := (h.pending n).1 (by rw [ho]; exact List.mem_cons_self)
  refine ⟨h.bays, SessionTable.drop_distinct h.distinct n, h.next, h.naming, fun k m => ?_, order, fun m => ?_, h.list,
    h.waiting⟩
  · rw [h.holds]
    refine Iff.trans ?_ (st.drop_opened n k m).symm
    refine iff_and_self.2 ?_
    rintro hm rfl
    exact h.not_pends_of_opened hm ⟨x, hx, hxn, hxp⟩
  · refine Iff.trans ?_ (st.drop_pends n m).symm
    rw [← h.pending, ho, List.mem_cons]
    constructor
    · intro hm
      exact ⟨fun e => first (e ▸ hm), .inr hm⟩
    · rintro ⟨hne, hm⟩
      exact hm.resolve_left hne

end Joined

end Sys2Proof.Machine
end

section
/-! Two facts that the bindings rest on: a new session's number is free (R116), and bound vouchers and OPEN sessions name each
other (R136, R138, R139). -/

namespace Sys2Proof.Machine

/-! ### The number of a new session (R116) -/

theorem Straps.bayCount_le (x : Straps) : x.bayCount ≤ 32 := by
  unfold Straps.bayCount
  split <;> decide

theorem nextNumber_eq {n : Nat} (h : 1 ≤ n ∧ n ≤ 65535) : nextNumber n = n % 65535 + 1 := by
  unfold nextNumber
  split <;> omega

theorem nextNumber_range {n : Nat} (h : 1 ≤ n ∧ n ≤ 65535) : 1 ≤ nextNumber n ∧ nextNumber n ≤ 65535 := by
  rw [nextNumber_eq h]
  omega

theorem freeNumber_range (held : List Nat) (fuel : Nat) {n : Nat} (h : 1 ≤ n ∧ n ≤ 65535) :
    1 ≤ freeNumber held fuel n ∧ freeNumber held fuel n ≤ 65535 := by
  induction fuel generalizing n with
  | zero => exact h
  | succ fuel ih =>
    unfold freeNumber
    split
    · exact ih (nextNumber_range h)
    · exact h

/-- The number found is held only if every number that the search has passed is. -/
theorem freeNumber_held {held : List Nat} {fuel n : Nat} (h : 1 ≤ n ∧ n ≤ 65535) (hf : freeNumber held fuel n ∈ held) :
    ∀ j ≤ fuel, (n - 1 + j) % 65535 + 1 ∈ held := by
  have first : (n - 1 + 0) % 65535 + 1 = n := by omega
  induction fuel generalizing n with
  | zero =>
    intro j hj
    rw [Nat.le_zero.1 hj, first]
    exact hf
  | succ fuel ih =>
    unfold freeNumber at hf
    split at hf
    · next hn =>
      intro j hj
      cases j with
      | zero =>
        rw [first]
        simpa using hn
      | succ j =>
        have next := nextNumber_range h
        have := ih next hf (by omega) j (by omega)
        rwa [show (n - 1 + (j + 1)) % 65535 = (nextNumber n - 1 + j) % 65535 by rw [nextNumber_eq h]; omega]
    · next hn => exact absurd (by simpa using hf) hn

/-- A search that may pass as many numbers as are held finds one that is not (R116). -/
theorem freeNumber_not_mem {held : List Nat} {n : Nat} (h : 1 ≤ n ∧ n ≤ 65535) (hl : held.length < 65535) :
    freeNumber held held.length n ∉ held := by
  intro hf
  have passed := freeNumber_held h hf
  have distinct : ((List.range (held.length + 1)).map fun j => (n - 1 + j) % 65535 + 1).Nodup := by
    refine List.Nodup.map_on (fun i hi j hj e => ?_) List.nodup_range
    rw [List.mem_range] at hi hj
    omega
  have within : ((List.range (held.length + 1)).map fun j => (n - 1 + j) % 65535 + 1) ⊆ held := by
    intro k hk
    obtain ⟨j, hj, rfl⟩ := List.mem_map.1 hk
    exact passed j (by rw [List.mem_range] at hj; omega)
  have := (List.subperm_of_subset distinct within).length_le
  simp at this

/-- The next session's number is free and in range, in a table within its size. -/
theorem State.newNumber_free {s : State} (size : s.st.sessions.length ≤ s.sessionSlots)
    (next : 1 ≤ s.st.nextSession ∧ s.st.nextSession ≤ 65535) :
    s.newNumber ∉ s.st.sessions.map (·.number) ∧ 1 ≤ s.newNumber ∧ s.newNumber ≤ 65535 := by
  have slots : s.sessionSlots ≤ 40 := Nat.add_le_add_right s.straps.bayCount_le 8
  have free := freeNumber_not_mem (held := s.st.sessions.map (·.number)) next (by rw [List.length_map]; omega)
  rw [List.length_map] at free
  exact ⟨free, freeNumber_range _ _ next⟩

/-! ### Vouchers and the sessions they are bound to (R136, R138, R139) -/

/-- What the claims read of a session record. -/
structure SessionLink where
  number : Nat
  bay : Nat
  state : SessionState
  voucher : Option Nat
  credit : Nat
  withdrawn : Bool

def Session.link (x : Session) : SessionLink :=
  ⟨x.number, x.bay, x.state, x.voucher, x.creditGranted, x.flags.withdrawn⟩

theorem Session.link_eq_iff (x y : Session) : x.link = y.link ↔ x.number = y.number ∧ x.bay = y.bay ∧ x.state = y.state ∧
    x.voucher = y.voucher ∧ x.creditGranted = y.creditGranted ∧ x.flags.withdrawn = y.flags.withdrawn := by
  simp [Session.link]

/-- A voucher and the OPEN session of a number name each other, with the bay, the credit and the withdrawal they share
(R136, R138). -/
structure Voucher.Bound (v : Voucher) (n : Nat) (x : Session) : Prop where
  number : x.number = n
  opened : x.state = .opened
  voucher : x.voucher = some v.number
  bay : v.bay = some x.bay
  credit : x.creditGranted = v.credit
  withdrawn : x.flags.withdrawn = decide (v.state = .withdrawn)

theorem Voucher.Bound.of_link {v : Voucher} {n : Nat} {x y : Session} (h : v.Bound n x) (e : y.link = x.link) :
    v.Bound n y := by
  obtain ⟨number, bay, state, voucher, credit, withdrawn⟩ := (y.link_eq_iff x).1 e
  exact ⟨number.trans h.number, state.trans h.opened, voucher.trans h.voucher, h.bay.trans (congrArg some bay.symm),
    credit.trans h.credit, withdrawn.trans h.withdrawn⟩

/-- The claims of a list of vouchers on a list of sessions: State.ClaimsOk, with distinct vouchers that are bound while they
are not UNCLAIMED. -/
structure Claimed (xs : List Session) (vs : List Voucher) : Prop where
  distinct : (vs.map (·.number)).Nodup
  bound : ∀ v ∈ vs, v.state = .unclaimed ↔ v.session = none
  claimed : ∀ v ∈ vs, ∀ n, v.session = some n → ∃ x ∈ xs, v.Bound n x
  named : ∀ x ∈ xs, x.state = .opened → ∀ m, x.voucher = some m → ∃ v ∈ vs, v.number = m ∧ v.session = some x.number
  unnamed : ∀ x ∈ xs, x.voucher = none → x.flags.withdrawn = false

theorem Claimed.claimsOk {s : State} (h : Claimed s.st.sessions s.vl.vouchers) : s.ClaimsOk where
  claimed v hv n hn := by
    obtain ⟨x, hx, hb⟩ := h.claimed v hv n hn
    exact ⟨x, hx, hb.number, hb.opened, hb.voucher, hb.bay, hb.credit, hb.withdrawn⟩
  named := h.named
  unnamed := h.unnamed

theorem State.claimed_iff {s : State} (h : s.VouchersOk) : s.ClaimsOk ↔ Claimed s.st.sessions s.vl.vouchers := by
  constructor
  · rintro ⟨claimed, named, unnamed⟩
    refine ⟨h.distinct, fun v hv => (h.bound v hv).1, fun v hv n hn => ?_, named, unnamed⟩
    obtain ⟨x, hx, number, opened, voucher, bay, credit, withdrawn⟩ := claimed v hv n hn
    exact ⟨x, hx, number, opened, voucher, bay, credit, withdrawn⟩
  · exact fun hc => hc.claimsOk

namespace Claimed

variable {xs ys : List Session} {vs : List Voucher} (h : Claimed xs vs)
include h

theorem voucher_unique {v w : Voucher} (hv : v ∈ vs) (hw : w ∈ vs) (hn : v.number = w.number) : v = w :=
  List.inj_on_of_nodup_map h.distinct hv hw hn

/-- The sessions may change in what the claims do not read, and gain or lose records that are not OPEN or name no voucher. -/
theorem of_sessions
    (keep : ∀ x ∈ xs, x.state = .opened → x.voucher ≠ none → ∃ y ∈ ys, y.link = x.link)
    (only : ∀ y ∈ ys, (∃ x ∈ xs, y.link = x.link) ∨ (y.voucher = none ∧ y.flags.withdrawn = false)) :
    Claimed ys vs where
  distinct := h.distinct
  bound := h.bound
  claimed v hv n hn := by
    obtain ⟨x, hx, hb⟩ := h.claimed v hv n hn
    obtain ⟨y, hy, e⟩ := keep x hx hb.opened (by rw [hb.voucher]; exact nofun)
    exact ⟨y, hy, hb.of_link e⟩
  named y hy ho m hm := by
    rcases only y hy with ⟨x, hx, e⟩ | ⟨none, _⟩
    · obtain ⟨number, _, state, voucher, _, _⟩ := (y.link_eq_iff x).1 e
      rw [number]
      exact h.named x hx (state ▸ ho) m (voucher ▸ hm)
    · exact nomatch none.symm.trans hm
  unnamed y hy hm := by
    rcases only y hy with ⟨x, hx, e⟩ | ⟨_, clear⟩
    · obtain ⟨_, _, _, voucher, _, withdrawn⟩ := (y.link_eq_iff x).1 e
      rw [withdrawn]
      exact h.unnamed x hx (voucher ▸ hm)
    · exact clear

/-- Vouchers that are bound to no session may leave the list (R137, R138). -/
theorem remove_unbound (p : Voucher → Bool) (hp : ∀ v ∈ vs, p v = false → v.session = none) :
    Claimed xs (vs.filter p) where
  distinct := h.distinct.sublist (List.filter_sublist.map _)
  bound v hv := h.bound v (List.mem_of_mem_filter hv)
  claimed v hv := h.claimed v (List.mem_of_mem_filter hv)
  named x hx ho m hm := by
    obtain ⟨v, hv, hn, hs⟩ := h.named x hx ho m hm
    refine ⟨v, List.mem_filter.2 ⟨hv, ?_⟩, hn, hs⟩
    by_contra hc
    exact nomatch (hp v hv (Bool.eq_false_iff.2 hc)).symm.trans hs
  unnamed := h.unnamed

/-- A new voucher is bound to no session (R133). -/
theorem post {v : Voucher} (fresh : v.number ∉ vs.map (·.number)) (hst : v.state = .unclaimed) (hs : v.session = none) :
    Claimed xs (vs ++ [v]) where
  distinct := by
    rw [List.map_append, List.nodup_append]
    refine ⟨h.distinct, List.nodup_singleton _, fun a ha c hc => ?_⟩
    rw [List.map_singleton, List.mem_singleton] at hc
    rintro rfl
    exact fresh (hc ▸ ha)
  bound w hw := by
    rcases List.mem_append.1 hw with hw | hw
    · exact h.bound w hw
    · rw [List.mem_singleton.1 hw, hst, hs]
      exact iff_of_true rfl rfl
  claimed w hw n hn := by
    rcases List.mem_append.1 hw with hw | hw
    · exact h.claimed w hw n hn
    · rw [List.mem_singleton.1 hw, hs] at hn
      exact nomatch hn
  named x hx ho m hm := by
    obtain ⟨w, hw, hn⟩ := h.named x hx ho m hm
    exact ⟨w, List.mem_append_left _ hw, hn⟩
  unnamed := h.unnamed

end Claimed

/-- The vouchers without the one that a session names; State.dropVoucher leaves the list so. -/
def withoutVoucher (o : Option Nat) (vs : List Voucher) : List Voucher :=
  match o with
  | none => vs
  | some m => vs.filter fun v => decide (v.number ≠ m)

theorem mem_withoutVoucher {o : Option Nat} {vs : List Voucher} {v : Voucher} :
    v ∈ withoutVoucher o vs ↔ v ∈ vs ∧ o ≠ some v.number := by
  cases o with
  | none => simp [withoutVoucher]
  | some m =>
    rw [withoutVoucher, List.mem_filter, decide_eq_true_iff, ne_eq, ne_eq, Option.some_inj, eq_comm]

theorem State.dropVoucher_vouchers (s : State) (o : Option Nat) :
    (s.dropVoucher o).vl.vouchers = withoutVoucher o s.vl.vouchers := by
  cases o <;> rfl

namespace Claimed

variable {xs ys : List Session} {vs : List Voucher} (h : Claimed xs vs) (hx : (xs.map (·.number)).Nodup)
include h hx

/-- An OPEN session closes: it leaves the table or waits in it, and the voucher that it names leaves the list (R124, R139). -/
theorem close {x : Session} (mem : x ∈ xs) (ho : x.state = .opened)
    (keep : ∀ y ∈ xs, y.number ≠ x.number → y ∈ ys)
    (only : ∀ y ∈ ys, (y ∈ xs ∧ y.number ≠ x.number) ∨
      (y.state ≠ .opened ∧ y.voucher = x.voucher ∧ y.flags.withdrawn = x.flags.withdrawn)) :
    Claimed ys (withoutVoucher x.voucher vs) where
  distinct := by
    refine h.distinct.sublist (List.Sublist.map _ ?_)
    cases x.voucher with
    | none => exact List.Sublist.refl vs
    | some m => exact List.filter_sublist
  bound v hv := h.bound v (mem_withoutVoucher.1 hv).1
  claimed v hv n hn := by
    obtain ⟨hv, other⟩ := mem_withoutVoucher.1 hv
    obtain ⟨y, hy, hb⟩ := h.claimed v hv n hn
    refine ⟨y, keep y hy fun e => other ?_, hb⟩
    rw [← List.inj_on_of_nodup_map hx hy mem e]
    exact hb.voucher
  named y hy hyo m hm := by
    rcases only y hy with ⟨hy, other⟩ | ⟨closed, _⟩
    · obtain ⟨v, hv, hn, hs⟩ := h.named y hy hyo m hm
      refine ⟨v, mem_withoutVoucher.2 ⟨hv, fun e => other ?_⟩, hn, hs⟩
      obtain ⟨w, hw, hwn, hws⟩ := h.named x mem ho v.number e
      rw [h.voucher_unique hw hv hwn, hs] at hws
      exact Option.some.inj hws
    · exact absurd hyo closed
  unnamed y hy hm := by
    rcases only y hy with ⟨hy, _⟩ | ⟨_, voucher, withdrawn⟩
    · exact h.unnamed y hy hm
    · rw [withdrawn]
      exact h.unnamed x mem (voucher ▸ hm)

/-- One voucher's record and the record of one OPEN session change together: the two are bound to each other afterwards, and
were so before if either was bound at all (R136, R138). -/
theorem bind {v : Voucher} (hv : v ∈ vs) {x : Session} (mem : x ∈ xs)
    (before : v.session = none ∧ x.voucher = none ∨ v.session = some x.number)
    {f : Voucher → Voucher} {g : Session → Session} (hf : ∀ a, (f a).number = a.number) (hfv : (f v).session = some x.number)
    (hfs : (f v).state ≠ .unclaimed) (hg : ∀ y, (g y).number = y.number) (hb : (f v).Bound x.number (g x)) :
    Claimed (xs.map fun y => if y.number = x.number then g y else y)
      (vs.map fun a => if a.number = v.number then f a else a) := by
  have session (y : Session) : (y ∈ xs.map fun y => if y.number = x.number then g y else y) ↔
      y = g x ∨ (y ∈ xs ∧ y.number ≠ x.number) := mem_map_keyed (key := Session.number) hx mem g y
  have voucher (a : Voucher) : (a ∈ vs.map fun a => if a.number = v.number then f a else a) ↔
      a = f v ∨ (a ∈ vs ∧ a.number ≠ v.number) := mem_map_keyed (key := Voucher.number) h.distinct hv f a
  have together (y : Session) (w : Voucher) (hw : w ∈ vs) (hbw : w.Bound x.number y) (hy : y ∈ xs) : w.number = v.number := by
    have same : y = x := List.inj_on_of_nodup_map hx hy mem hbw.number
    rcases before with ⟨_, none⟩ | bound
    · rw [same] at hbw
      exact nomatch none.symm.trans hbw.voucher
    · obtain ⟨z, hz, hbz⟩ := h.claimed v hv _ bound
      have same' : z = x := List.inj_on_of_nodup_map hx hz mem hbz.number
      rw [same] at hbw
      rw [same'] at hbz
      exact Option.some.inj (hbw.voucher.symm.trans hbz.voucher)
  refine ⟨?_, fun a ha => ?_, fun a ha n hn => ?_, fun y hy ho m hm => ?_, fun y hy hm => ?_⟩
  · have same : (vs.map fun a => if a.number = v.number then f a else a).map (·.number) = vs.map (·.number) := by
      rw [List.map_map]
      refine List.map_congr_left fun a _ => ?_
      simp only [Function.comp_apply, apply_ite Voucher.number, hf, ite_self]
    rw [same]
    exact h.distinct
  · rcases (voucher a).1 ha with rfl | ⟨ha, _⟩
    · simp [hfs, hfv]
    · exact h.bound a ha
  · rcases (voucher a).1 ha with rfl | ⟨ha, other⟩
    · rw [hfv] at hn
      cases hn
      exact ⟨g x, (session _).2 (.inl rfl), hb⟩
    · obtain ⟨y, hy, hby⟩ := h.claimed a ha n hn
      refine ⟨y, (session y).2 (.inr ⟨hy, fun e => other ?_⟩), hby⟩
      have number := hby.number.symm.trans e
      exact together y a ha (number ▸ hby) hy
  · rcases (session y).1 hy with rfl | ⟨hy, other⟩
    · rw [hb.voucher] at hm
      cases hm
      exact ⟨f v, (voucher _).2 (.inl rfl), rfl, hfv.trans (congrArg some (hg x).symm)⟩
    · obtain ⟨w, hw, hwn, hws⟩ := h.named y hy ho m hm
      refine ⟨w, (voucher w).2 (.inr ⟨hw, fun e => other ?_⟩), hwn, hws⟩
      rw [h.voucher_unique hw hv e] at hws
      rcases before with ⟨none, _⟩ | bound
      · exact nomatch none.symm.trans hws
      · exact Option.some.inj (hws.symm.trans bound)
  · rcases (session y).1 hy with rfl | ⟨hy, _⟩
    · exact nomatch hb.voucher.symm.trans hm
    · exact h.unnamed y hy hm

end Claimed

end Sys2Proof.Machine
end

section
/-! What the binding laws read of a state, the operations that leave all of it alone, and the laws as an invariant: with the
claims, for a state that has them. -/

namespace Sys2Proof.Machine

/-! ### States that the bindings cannot tell apart -/

/-- What the bindings read of a bay record. -/
structure BayLink where
  number : Nat
  charges : Prop
  waits : Prop
  session : Option Nat

def BayRec.link (b : BayRec) : BayLink :=
  ⟨b.number, b.Charges, b.state = .waiting, b.session⟩

theorem BayRec.link_eq_iff (a b : BayRec) : a.link = b.link ↔ a.number = b.number ∧ (a.Charges ↔ b.Charges) ∧
    (a.state = .waiting ↔ b.state = .waiting) ∧ a.session = b.session := by
  simp [BayRec.link]

/-- Two states agree in everything that the bindings and the claims read. -/
structure State.Unmoved (s t : State) : Prop where
  site : t.site = s.site := by rfl
  slots : t.sessionSlots = s.sessionSlots := by rfl
  bays : t.bt.bays.map BayRec.link = s.bt.bays.map BayRec.link := by rfl
  list : t.bt.slotWait = s.bt.slotWait := by rfl
  sessions : t.st.sessions.map Session.link = s.st.sessions.map Session.link := by rfl
  order : t.st.pendingOrder = s.st.pendingOrder := by rfl
  next : t.st.nextSession = s.st.nextSession := by rfl
  room : t.hasRoom = s.hasRoom := by rfl
  vouchers : t.vl.vouchers = s.vl.vouchers := by rfl

variable {s t u : State}

theorem State.Unmoved.refl (s : State) : s.Unmoved s := {}

theorem State.Unmoved.trans (h : s.Unmoved t) (h' : t.Unmoved u) : s.Unmoved u where
  site := h'.site.trans h.site
  slots := h'.slots.trans h.slots
  bays := h'.bays.trans h.bays
  list := h'.list.trans h.list
  sessions := h'.sessions.trans h.sessions
  order := h'.order.trans h.order
  next := h'.next.trans h.next
  room := h'.room.trans h.room
  vouchers := h'.vouchers.trans h.vouchers

/-- An alternative leaves the bindings unmoved if both its ways do. -/
theorem State.Unmoved.ite {c : Prop} [Decidable c] (h : s.Unmoved t) (h' : s.Unmoved u) :
    s.Unmoved (if c then t else u) := by
  split
  · exact h
  · exact h'

/-! ### Operations that leave the bindings unmoved -/

variable (s)

theorem State.mapBays_unmoved (f : BayRec → BayRec) (h : ∀ b ∈ s.bt.bays, (f b).link = b.link) : s.Unmoved (s.mapBays f) where
  bays := by
    rw [State.mapBays, List.map_map]
    exact List.map_congr_left h

theorem State.updBay_unmoved (k : Nat) (f : BayRec → BayRec) (h : ∀ b ∈ s.bt.bays, b.number = k → (f b).link = b.link) :
    s.Unmoved (s.updBay k f) :=
  s.mapBays_unmoved (fun b => if b.number = k then f b else b) fun b hb => by
    split
    · next hk => exact h b hb hk
    · rfl

theorem State.updSession_unmoved (n : Nat) (f : Session → Session) (h : ∀ x, (f x).link = x.link) :
    s.Unmoved (s.updSession n f) where
  sessions := by
    rw [State.updSession, List.map_map]
    refine List.map_congr_left fun x _ => ?_
    simp only [Function.comp_apply, apply_ite Session.link, h, ite_self]

theorem State.onReturn_unmoved (p : Port) : s.Unmoved (s.onReturn p) := by
  cases p with
  | network => exact State.Unmoved.ite {} (.refl s)
  | till => exact {}
  | energy => exact .refl s

theorem State.arrive_unmoved (p : Port) : s.Unmoved (s.arrive p) := by
  have present : s.Unmoved ((s.emptyReceiver p).updPort p fun x =>
    { x with presence := .present, timer := some (s.emptyReceiver p).tb.ms }) := {}
  exact present.ite (present.trans (State.onReturn_unmoved _ p))

theorem State.lowerByReport_unmoved (k n : Nat) : s.Unmoved (s.lowerByReport k n) := by
  obtain ⟨gt, sp, h⟩ := s.lowerByReport_frame k n
  rw [h]
  exact {}

theorem State.outGrant_unmoved (k : Nat) : s.Unmoved (s.outGrant k) := by
  obtain ⟨gt, sp, h⟩ := s.outGrant_frame k
  rw [h]
  exact {}

theorem Session.takeReading_link (reading dt connectorMax : Nat) (key : Nat × Band) (x : Session) :
    (x.takeReading reading dt connectorMax key).link = x.link := by
  unfold Session.takeReading
  split <;> rfl

theorem State.passReading_unmoved (n : Option Nat) (reading dt connectorMax : Nat) :
    s.Unmoved (s.passReading n reading dt connectorMax) := by
  cases n with
  | none => exact .refl s
  | some n => exact s.updSession_unmoved n _ fun x => x.takeReading_link _ _ _ _

theorem State.refreshBay_unmoved (b : BayRec) (x : ReportEntry) : s.Unmoved (s.refreshBay b x) := by
  have refreshed : s.Unmoved (s.updBay x.bay (BayRec.refresh s.tb.ms x)) :=
    s.updBay_unmoved _ _ fun _ _ _ => rfl
  exact State.Unmoved.ite (refreshed.trans (State.lowerByReport_unmoved _ _ _)) refreshed

theorem BayRec.lapse_link (minute : Nat) (b : BayRec) : (b.lapse minute).link = b.link := by
  unfold BayRec.lapse
  split
  · next h => simp [BayRec.link, BayRec.Charges, h]
  · rfl

theorem State.lapseTreatment_unmoved : s.Unmoved s.lapseTreatment :=
  (s.mapBays_unmoved _ fun b _ => b.lapse_link _).trans {}

theorem State.expirePresence_unmoved (p : Port) : s.Unmoved (s.expirePresence p) := by
  have lapsed : s.Unmoved (s.lapsePort p) := {}
  unfold State.expirePresence
  refine State.Unmoved.ite ?_ (.refl s)
  cases p with
  | network => exact (lapsed.trans (State.lapseTreatment_unmoved _)).ite lapsed
  | till => exact lapsed
  | energy => exact lapsed

theorem State.markStale_unmoved : s.Unmoved s.markStale :=
  s.mapBays_unmoved _ fun b _ => by split <;> rfl

theorem State.markStaleBay_unmoved (k : Nat) : s.Unmoved (s.markStaleBay k) :=
  s.updBay_unmoved k _ fun b _ _ => by split <;> rfl

theorem BayRec.age_link (limit length target : Nat) (b : BayRec) : (b.age limit length target).link = b.link := by
  simp only [BayRec.age, apply_ite BayRec.link]
  exact ite_self _

theorem State.ageBays_unmoved (l : List (Nat × Nat)) : s.Unmoved (s.ageBays l) :=
  s.mapBays_unmoved _ fun b _ => by
    split
    · exact b.age_link _ _ _
    · rfl

theorem State.round_unmoved : s.Unmoved s.round := by
  obtain ⟨sp, h⟩ := s.reportShortfall_frame s.figures
  have told : s.Unmoved (s.reportShortfall s.figures) := by rw [h]; exact {}
  have aged := told.trans (State.ageBays_unmoved _ s.figures.shared.targets)
  obtain ⟨gt, sp', h'⟩ := ((s.reportShortfall s.figures).ageBays s.figures.shared.targets).handTargets_frame s.figures
  unfold State.round
  dsimp only
  rw [h']
  exact aged.trans {}

theorem State.comeToTick_unmoved : s.Unmoved s.comeToTick := by
  obtain ⟨jl, tb, h⟩ := s.comeToTick_frame
  rw [h]
  exact {}

theorem State.tickLimits_unmoved : s.Unmoved s.tickLimits := by
  obtain ⟨ls, sp, h⟩ := s.tickLimits_frame
  rw [h]
  exact {}

theorem State.tickGuard_unmoved : s.Unmoved s.tickGuard := by
  obtain ⟨dg, h⟩ := s.tickGuard_frame
  rw [h]
  exact {}

theorem State.scheduleNext_unmoved : s.Unmoved s.scheduleNext := {}

theorem State.tick_unmoved : s.Unmoved s.tick := by
  have limited := s.comeToTick_unmoved.trans (State.tickLimits_unmoved _)
  have marked := (limited.trans (State.tickGuard_unmoved _)).trans (State.markStale_unmoved _)
  exact (marked.trans (State.round_unmoved _)).trans (State.scheduleNext_unmoved _)

/-! ### The laws as an invariant -/

/-- The tables fit each other, the Session Table is within its size and full while a bay waits for a slot, and in CONFIGURE
there is no session (R55, R114, R130). -/
structure State.Seated (s : State) : Prop where
  joined : Joined s.bt s.st
  size : s.st.sessions.length ≤ s.sessionSlots
  held : s.bt.slotWait ≠ [] → s.st.sessions.length = s.sessionSlots
  configure : s.site = .configure → s.st.sessions = []

/-- Besides, a session waits for its receipt only while the queue answers full (R125). -/
structure State.Linked (s : State) : Prop extends s.Seated where
  full : s.st.pendingOrder ≠ [] → s.hasRoom = false

variable {s}

theorem State.Linked.bindingsOk (h : s.Linked) : s.BindingsOk where
  naming := h.joined.naming
  named b hb n hn := by
    obtain ⟨x, hx, bay, number, opened⟩ := h.joined.opened_of_session hb hn
    exact ⟨x, hx, number, opened, bay⟩
  bound x hx ho := (h.joined.holds x.bay x.number).2 ⟨x, hx, rfl, rfl, ho⟩
  order := h.joined.order
  pending := h.joined.pending
  full := h.full
  list := h.joined.list
  waiting := h.joined.waiting
  held := h.held
  configure := h.configure

theorem State.BindingsOk.linked (h : s.BindingsOk) (tables : s.TablesOk) (sessions : s.SessionsOk) : s.Linked where
  joined := {
    bays := by rw [tables.bays]; exact List.nodup_range'
    distinct := sessions.distinct
    next := sessions.next
    naming := h.naming
    holds := fun k n => by
      constructor
      · rintro ⟨b, hb, rfl, hs⟩
        obtain ⟨x, hx, number, opened, bay⟩ := h.named b hb n hs
        exact ⟨x, hx, bay, number, opened⟩
      · rintro ⟨x, hx, rfl, rfl, ho⟩
        exact h.bound x hx ho
    order := h.order
    pending := h.pending
    list := h.list
    waiting := h.waiting }
  size := sessions.size
  held := h.held
  configure := h.configure
  full := h.full

/-- A record of one list has a record of the other that looks the same, where the lists look the same. -/
theorem exists_of_map_eq {α β : Type} {f : α → β} {l m : List α} (h : l.map f = m.map f) {a : α} (ha : a ∈ l) :
    ∃ b ∈ m, f b = f a := by
  have := List.mem_map_of_mem (f := f) ha
  rw [h] at this
  exact List.mem_map.1 this

/-- A list that looks the same through f looks the same through anything that f determines. -/
theorem map_eq_of_map_eq {α β γ : Type} {f : α → β} {l m : List α} (h : l.map f = m.map f) (g : β → γ) :
    l.map (fun a => g (f a)) = m.map fun a => g (f a) := by
  have := congrArg (List.map g) h
  simpa only [List.map_map, Function.comp_def] using this

/-- What the tables' fit reads of a session record. -/
def Session.seat (x : Session) : Nat × Nat × SessionState :=
  (x.number, x.bay, x.state)

theorem Session.seat_eq_iff (x y : Session) : x.seat = y.seat ↔ x.number = y.number ∧ x.bay = y.bay ∧ x.state = y.state := by
  simp [Session.seat]

theorem Joined.of_links {bt bt' : BayTable} {st st' : SessionTable} (h : Joined bt st)
    (bays : bt'.bays.map BayRec.link = bt.bays.map BayRec.link) (list : bt'.slotWait = bt.slotWait)
    (sessions : st'.sessions.map Session.seat = st.sessions.map Session.seat)
    (order : st'.pendingOrder = st.pendingOrder) (next : st'.nextSession = st.nextSession) : Joined bt' st' where
  bays := by
    rw [show bt'.bays.map (·.number) = bt.bays.map (·.number) from map_eq_of_map_eq bays (·.number)]
    exact h.bays
  distinct := by
    rw [show st'.sessions.map (·.number) = st.sessions.map (·.number) from map_eq_of_map_eq sessions (·.1)]
    exact h.distinct
  next := by rw [next]; exact h.next
  naming b hb := by
    obtain ⟨c, hc, e⟩ := exists_of_map_eq bays hb
    obtain ⟨_, charges, _, session⟩ := (c.link_eq_iff b).1 e
    rw [← charges, ← session]
    exact h.naming c hc
  holds k n := by
    have opened {x y : SessionTable} (e : x.sessions.map Session.seat = y.sessions.map Session.seat) :
        x.Opened k n → y.Opened k n := by
      rintro ⟨a, ha, rfl, rfl, ho⟩
      obtain ⟨c, hc, e⟩ := exists_of_map_eq e ha
      obtain ⟨number, bay, state⟩ := (c.seat_eq_iff a).1 e
      exact ⟨c, hc, bay, number, state.trans ho⟩
    have holds {x y : BayTable} (e : x.bays.map BayRec.link = y.bays.map BayRec.link) : x.Holds k n → y.Holds k n := by
      rintro ⟨a, ha, rfl, hs⟩
      obtain ⟨c, hc, e⟩ := exists_of_map_eq e ha
      obtain ⟨number, _, _, session⟩ := (c.link_eq_iff a).1 e
      exact ⟨c, hc, number, session.trans hs⟩
    exact (Iff.intro (holds bays) (holds bays.symm)).trans
      ((h.holds k n).trans ⟨opened sessions.symm, opened sessions⟩)
  order := by rw [order]; exact h.order
  pending n := by
    have pends {x y : SessionTable} (e : x.sessions.map Session.seat = y.sessions.map Session.seat) :
        x.Pends n → y.Pends n := by
      rintro ⟨a, ha, rfl, hp⟩
      obtain ⟨c, hc, e⟩ := exists_of_map_eq e ha
      obtain ⟨number, _, state⟩ := (c.seat_eq_iff a).1 e
      exact ⟨c, hc, number, state.trans hp⟩
    rw [order, h.pending]
    exact ⟨pends sessions.symm, pends sessions⟩
  list := by rw [list]; exact h.list
  waiting k := by
    have waits {x y : BayTable} (e : x.bays.map BayRec.link = y.bays.map BayRec.link) : x.Waits k → y.Waits k := by
      rintro ⟨a, ha, rfl, hw⟩
      obtain ⟨c, hc, e⟩ := exists_of_map_eq e ha
      obtain ⟨number, _, waits, _⟩ := (c.link_eq_iff a).1 e
      exact ⟨c, hc, number, waits.2 hw⟩
    rw [list, h.waiting]
    exact ⟨waits bays.symm, waits bays⟩

theorem State.Unmoved.length (h : s.Unmoved t) : t.st.sessions.length = s.st.sessions.length := by
  simpa using congrArg List.length h.sessions

theorem State.Seated.of_unmoved (h : s.Unmoved t) (hs : s.Seated) : t.Seated where
  joined := hs.joined.of_links h.bays h.list (map_eq_of_map_eq h.sessions fun x => (x.number, x.bay, x.state)) h.order h.next
  size := by rw [h.length, h.slots]; exact hs.size
  held := by rw [h.length, h.slots, h.list]; exact hs.held
  configure := by
    rw [h.site, ← List.length_eq_zero_iff, h.length, List.length_eq_zero_iff]
    exact hs.configure

theorem Claimed.of_links {xs ys : List Session} {vs : List Voucher} (h : Claimed xs vs)
    (sessions : ys.map Session.link = xs.map Session.link) : Claimed ys vs :=
  h.of_sessions (fun _ hx _ _ => exists_of_map_eq sessions.symm hx) fun y hy => by
    obtain ⟨x, hx, e⟩ := exists_of_map_eq sessions hy
    exact .inl ⟨x, hx, e.symm⟩

/-- The bindings hold, and the claims too where they are asked for. -/
def State.Kept (c : Prop) (s : State) : Prop :=
  s.Linked ∧ (c → Claimed s.st.sessions s.vl.vouchers)

theorem State.Kept.of_unmoved {c : Prop} (h : s.Unmoved t) (hs : s.Kept c) : t.Kept c := by
  obtain ⟨linked, claimed⟩ := hs
  refine ⟨⟨linked.toSeated.of_unmoved h, ?_⟩, fun hc => ?_⟩
  · rw [h.order, h.room]
    exact linked.full
  · rw [h.vouchers]
    exact (claimed hc).of_links h.sessions

end Sys2Proof.Machine
end

section
/-! The operations that move the bindings: openings, receipts, closings and freed places (R55, R117, R118, R124 to R126). -/

namespace Sys2Proof.Machine

variable {s : State} {c : Prop}

/-! ### Lookups -/

/-- A record is found by its key in a list of distinct keys. -/
theorem find?_keyed {α : Type} {key : α → Nat} {l : List α} (hl : (l.map key).Nodup) {a : α} (ha : a ∈ l) :
    (l.find? fun b => key b == key a) = some a := by
  cases h : l.find? fun b => key b == key a with
  | none => simpa using List.find?_eq_none.1 h a ha
  | some b =>
    have found := List.find?_some h
    rw [List.inj_on_of_nodup_map hl (List.mem_of_find?_eq_some h) ha (by simpa using found)]

theorem State.mem_of_bay {k : Nat} {b : BayRec} (h : s.bay k = some b) : b ∈ s.bt.bays ∧ b.number = k :=
  ⟨List.mem_of_find?_eq_some h, by simpa using List.find?_some h⟩

theorem State.not_bay {k : Nat} (h : s.bay k = none) : ∀ b ∈ s.bt.bays, b.number ≠ k := by
  simpa [State.bay] using h

theorem State.mem_of_session {n : Nat} {x : Session} (h : s.session n = some x) : x ∈ s.st.sessions ∧ x.number = n :=
  ⟨List.mem_of_find?_eq_some h, by simpa using List.find?_some h⟩

theorem State.mem_of_voucher {n : Nat} {v : Voucher} (h : s.voucher n = some v) : v ∈ s.vl.vouchers ∧ v.number = n :=
  ⟨List.mem_of_find?_eq_some h, by simpa using List.find?_some h⟩

/-! ### Openings (R55, R117, R118) -/

theorem State.openSession_seated (hj : Joined s.bt s.st) (run : s.site = .run)
    (size : s.st.sessions.length + 1 ≤ s.sessionSlots) {b : BayRec} (hb : b ∈ s.bt.bays) (hs : b.session = none)
    {w : List Nat} (list : w.Nodup) (waiting : ∀ k, k ∈ w ↔ k ≠ b.number ∧ k ∈ s.bt.slotWait)
    (held : w ≠ [] → s.st.sessions.length + 1 = s.sessionSlots) (base : Nat) {st : BayState}
    (hst : st = .active ∨ st = .fallback) (m : Option Nat) :
    (State.openSession b.number base st m { s with bt := { s.bt with slotWait := w } }).Seated := by
  obtain ⟨fresh, range⟩ := State.newNumber_free (Nat.le_of_succ_le size) hj.next
  have length : (s.st.sessions ++ [s.newSession b.number base]).length = s.st.sessions.length + 1 := List.length_append
  exact {
    joined := hj.opening hb (x := s.newSession b.number base)
      (f := fun y =>
        { y with state := st, fallbackStart := m, session := some s.newNumber, hold := 0, promo := 0 })
      (fun _ => rfl) hs rfl rfl fresh hst rfl list waiting (nextNumber_range range)
    size := length.trans_le size
    held := fun hw => length.trans (held hw)
    configure := fun h => nomatch run.symm.trans h }

theorem State.openSession_claimed (k base : Nat) (st : BayState) (m : Option Nat)
    (h : Claimed s.st.sessions s.vl.vouchers) :
    Claimed (s.openSession k base st m).st.sessions (s.openSession k base st m).vl.vouchers := by
  refine h.of_sessions (fun x hx _ _ => ⟨x, List.mem_append_left _ hx, rfl⟩) fun y hy => ?_
  rcases List.mem_append.1 hy with hy | hy
  · exact .inl ⟨y, hy, rfl⟩
  · rw [List.mem_singleton.1 hy]
    exact .inr ⟨rfl, rfl⟩

/-- The freed slot admits the head, which leaves the Slot Wait List and goes to ACTIVE or FALLBACK (R118, R55). -/
theorem State.admitHead_eq {k : Nat} {rest : List Nat} (h : s.bt.slotWait = k :: rest) : ∃ base st m,
    (st = .active ∨ st = .fallback) ∧
      s.admitHead = State.openSession k base st m { s with bt := { s.bt with slotWait := rest } } := by
  unfold State.admitHead
  rw [h]
  dsimp only
  split
  · exact ⟨_, _, _, .inl rfl, rfl⟩
  · exact ⟨_, _, _, .inr rfl, rfl⟩

theorem State.admitHead_nil (h : s.bt.slotWait = []) : s.admitHead = s := by
  unfold State.admitHead
  rw [h]

/-- An admission touches neither the pending order nor the queue, and the list loses its head. -/
theorem State.admitHead_rest (s : State) : s.admitHead.st.pendingOrder = s.st.pendingOrder ∧ s.admitHead.rq = s.rq ∧
    s.admitHead.vl = s.vl ∧ s.admitHead.bt.slotWait = s.bt.slotWait.tail := by
  cases h : s.bt.slotWait with
  | nil => rw [s.admitHead_nil h, h]; exact ⟨rfl, rfl, rfl, rfl⟩
  | cons k rest =>
    obtain ⟨base, st, m, _, e⟩ := s.admitHead_eq h
    rw [e]
    exact ⟨rfl, rfl, rfl, rfl⟩

theorem State.admitHead_seated (hj : Joined s.bt s.st) (run : s.site = .run)
    (size : s.st.sessions.length + 1 ≤ s.sessionSlots)
    (held : s.bt.slotWait ≠ [] → s.st.sessions.length + 1 = s.sessionSlots) : s.admitHead.Seated := by
  cases h : s.bt.slotWait with
  | nil =>
    rw [s.admitHead_nil h]
    exact ⟨hj, Nat.le_of_succ_le size, fun hw => absurd h hw, fun hc => nomatch run.symm.trans hc⟩
  | cons k rest =>
    obtain ⟨b, hb, rfl, hw⟩ := (hj.waiting k).1 (by rw [h]; exact List.mem_cons_self)
    have idle : b.session = none := hj.session_none hb fun hc => by
      rcases hc with hc | hc <;> exact nomatch hw.symm.trans hc
    have list := hj.list
    rw [h] at list
    obtain ⟨first, list⟩ := List.nodup_cons.1 list
    obtain ⟨base, st, m, hst, e⟩ := s.admitHead_eq h
    rw [e]
    refine s.openSession_seated hj run size hb idle list (fun j => ?_) (fun _ => held (by rw [h]; exact nofun)) base hst m
    rw [h, List.mem_cons]
    refine ⟨fun hj => ⟨fun e => first (e ▸ hj), .inr hj⟩, fun ⟨hne, hj⟩ => hj.resolve_left hne⟩

theorem State.admitHead_claimed (h : Claimed s.st.sessions s.vl.vouchers) :
    Claimed s.admitHead.st.sessions s.admitHead.vl.vouchers := by
  cases hw : s.bt.slotWait with
  | nil =>
    rw [s.admitHead_nil hw]
    exact h
  | cons k rest =>
    obtain ⟨base, st, m, _, e⟩ := s.admitHead_eq hw
    rw [e]
    exact State.openSession_claimed (s := { s with bt := { s.bt with slotWait := rest } }) k base st m h

/-! ### Receipts (R125, R126) -/

/-- A session of the table is receipted: its receipt joins the queue, its record leaves the table, and the head of the Slot
Wait List is admitted. -/
theorem State.receiptSession_eq {n : Nat} (hn : ∃ x ∈ s.st.sessions, x.number = n) :
    ∃ x, s.receiptSession n = ((s.buildReceipt x).dropSession n).admitHead := by
  unfold State.receiptSession
  split
  · next h =>
    obtain ⟨x, hx, e⟩ := hn
    exact absurd e (by simpa using List.find?_eq_none.1 h x hx)
  · next x _ => exact ⟨x, rfl⟩

theorem State.receiptSession_seated {n : Nat} (hn : ∃ x ∈ s.st.sessions, x.number = n)
    (distinct : (s.st.sessions.map (·.number)).Nodup) (hj : Joined s.bt (s.st.drop n)) (run : s.site = .run)
    (size : s.st.sessions.length ≤ s.sessionSlots)
    (held : s.bt.slotWait ≠ [] → s.st.sessions.length = s.sessionSlots) : (s.receiptSession n).Seated := by
  obtain ⟨x, e⟩ := s.receiptSession_eq hn
  obtain ⟨y, hy, rfl⟩ := hn
  have left : (s.st.drop y.number).sessions.length + 1 = s.st.sessions.length :=
    length_filter_keyed (key := Session.number) distinct hy
  rw [e]
  exact State.admitHead_seated (s := (s.buildReceipt x).dropSession y.number) hj run (left.trans_le size)
    fun hw => left.trans (held hw)

theorem State.receiptSession_claimed {n : Nat} (hn : ∃ x ∈ s.st.sessions, x.number = n)
    (h : Claimed (s.st.drop n).sessions s.vl.vouchers) :
    Claimed (s.receiptSession n).st.sessions (s.receiptSession n).vl.vouchers := by
  obtain ⟨x, e⟩ := s.receiptSession_eq hn
  rw [e]
  exact State.admitHead_claimed (s := (s.buildReceipt x).dropSession n) h

/-- A receipt leaves the pending order, makes the queue longer by one, and admits at most the head of the Slot Wait List. -/
theorem State.receiptSession_rest {n : Nat} (hn : ∃ x ∈ s.st.sessions, x.number = n) :
    (s.receiptSession n).st.pendingOrder = s.st.pendingOrder ∧
      (s.receiptSession n).rq.receipts.length = s.rq.receipts.length + 1 ∧
      (s.rq.exhausted = true → (s.receiptSession n).rq.exhausted = true) ∧
      (s.receiptSession n).bt.slotWait = s.bt.slotWait.tail := by
  obtain ⟨x, e⟩ := s.receiptSession_eq hn
  obtain ⟨order, queue, _, list⟩ := State.admitHead_rest ((s.buildReceipt x).dropSession n)
  rw [e, order, queue, list]
  refine ⟨rfl, List.length_append, fun h => ?_, rfl⟩
  simp [State.dropSession, State.buildReceipt, h]

/-! ### Idle bays -/

/-- A state in which a bay neither charges nor waits (R47). -/
def BayState.Idle (st : BayState) : Prop :=
  st ≠ .active ∧ st ≠ .fallback ∧ st ≠ .waiting

theorem BayState.Idle.not_charges {st : BayState} {b : BayRec} (h : st.Idle) (hb : b.state = st) : ¬ b.Charges := by
  subst hb
  obtain ⟨active, fallback, _⟩ := h
  rintro (hb | hb)
  · exact active hb
  · exact fallback hb

/-- A bay without a session goes to another state without one, and the Slot Wait List follows it (R50, R51, R55, R58, R59). -/
theorem State.Kept.idle (h : s.Kept c) {b : BayRec} (hb : b ∈ s.bt.bays) (hs : b.session = none) {f : BayRec → BayRec}
    (hf : ∀ a, (f a).number = a.number) (hc : ¬ (f b).Charges) (hn : (f b).session = none) {w : List Nat} (list : w.Nodup)
    (waiting : ∀ k, k ∈ w ↔ (k = b.number ∧ (f b).state = .waiting) ∨ (k ≠ b.number ∧ k ∈ s.bt.slotWait))
    (held : w ≠ [] → s.bt.slotWait ≠ [] ∨ s.st.sessions.length = s.sessionSlots) :
    State.Kept c { s with bt := { s.bt.setBay b.number f with slotWait := w } } := by
  obtain ⟨linked, claimed⟩ := h
  refine ⟨⟨⟨linked.joined.idle hb hf hs hc hn list waiting, linked.size, fun hw => ?_, linked.configure⟩, linked.full⟩,
    claimed⟩
  exact (held hw).elim linked.held id

/-! ### Closings (R124, R125) -/

/-- A closing that finds a place in the queue is receipted; the pending order is empty then (R125). -/
theorem State.askPlace_room {n : Nat} (h : s.hasRoom = true) : s.askPlace n = s.receiptSession n :=
  if_pos h

/-- A closing that finds no place waits at the end of the pending order (R125). -/
theorem State.askPlace_full {n : Nat} (h : s.hasRoom = false) : s.askPlace n =
    { s with st := s.st.queue n fun x => { x with state := .pendingReceipt } } := by
  unfold State.askPlace
  rw [h]
  rfl

/-- The record of a bay as a closing leaves it (R124, R47). -/
def BayRec.closed (st : BayState) (b : BayRec) : BayRec :=
  { b.leave st with session := none }

/-- The state of a closing before it asks for a place: the bay unbound, the session closed, its voucher removed (R124). -/
def State.unbound (k n : Nat) (cause : CloseCause) (st : BayState) (s : State) : State :=
  ((s.updBay k (BayRec.closed st)).updSession n (Session.close s.stamp s.tb.clockSet cause)).dropVoucher
    ((s.session n).bind (·.voucher))

theorem State.closeSession_none {k : Nat} (h : (s.bay k).bind (·.session) = none) (cause : CloseCause) (st : BayState) :
    s.closeSession k cause st = s.updBay k (BayRec.closed st) := by
  unfold State.closeSession
  rw [h]
  rfl

theorem State.closeSession_some {k n : Nat} (h : (s.bay k).bind (·.session) = some n) (cause : CloseCause) (st : BayState) :
    s.closeSession k cause st = (s.unbound k n cause st).askPlace n := by
  unfold State.closeSession
  rw [h]
  rfl

/-- A closing before it asks for a place has changed the bay, the session and the vouchers alone. -/
theorem State.unbound_eq (k n : Nat) (cause : CloseCause) (st : BayState) (s : State) : s.unbound k n cause st = { s with
    bt := s.bt.setBay k (BayRec.closed st)
    st := s.st.setSession n (Session.close s.stamp s.tb.clockSet cause)
    vl := { vouchers := withoutVoucher ((s.session n).bind (·.voucher)) s.vl.vouchers } } := by
  unfold State.unbound
  cases (s.session n).bind (·.voucher) <;> rfl

theorem State.unbound_hasRoom (s : State) (k n : Nat) (cause : CloseCause) (st : BayState) :
    (s.unbound k n cause st).hasRoom = s.hasRoom := by
  rw [s.unbound_eq]
  rfl

/-- The record of a session that closes without a place for its receipt (R124, R125). -/
def Session.await (stamp : Stamp) (set : Bool) (cause : CloseCause) (x : Session) : Session :=
  { x.close stamp set cause with state := .pendingReceipt }

/-- A closing without a place: the session waits at the end of the pending order (R125). -/
theorem State.unbound_askPlace_full (hr : s.hasRoom = false) (k n : Nat) (cause : CloseCause) (st : BayState) :
    (s.unbound k n cause st).askPlace n = { s with
      bt := s.bt.setBay k (BayRec.closed st)
      st := s.st.queue n (Session.await s.stamp s.tb.clockSet cause)
      vl := { vouchers := withoutVoucher ((s.session n).bind (·.voucher)) s.vl.vouchers } } := by
  have queued : (s.st.setSession n (Session.close s.stamp s.tb.clockSet cause)).queue n
      (fun x => { x with state := .pendingReceipt }) = s.st.queue n (Session.await s.stamp s.tb.clockSet cause) :=
    SessionTable.setSession_queue (g := Session.close s.stamp s.tb.clockSet cause) (fun _ => rfl) n _ s.st
  rw [State.askPlace_full ((s.unbound_hasRoom k n cause st).trans hr), s.unbound_eq, ← queued]

section Unbound

variable (h : s.Kept c) {b : BayRec} (hb : b ∈ s.bt.bays) {n : Nat} (hs : b.session = some n) (cause : CloseCause)
  {st : BayState} (hst : st.Idle)
include h hb hs

/-- The session that a closing bay names, with what its voucher list loses. -/
theorem State.Kept.closing_session : ∃ x ∈ s.st.sessions, x.number = n ∧ x.state = .opened ∧ s.session n = some x := by
  obtain ⟨x, hx, _, rfl, ho⟩ := h.1.joined.opened_of_session hb hs
  exact ⟨x, hx, rfl, ho, find?_keyed (key := Session.number) h.1.joined.distinct hx⟩

/-- With a session in the table the site is in RUN (R130). -/
theorem State.Kept.run_of_session : s.site = .run := by
  obtain ⟨x, hx, _⟩ := h.closing_session hb hs
  cases e : s.site with
  | run => rfl
  | configure =>
    rw [h.1.configure e] at hx
    exact absurd hx List.not_mem_nil

include hst

/-- A closing with a place in the queue (R124, R125). -/
theorem State.Kept.unbound_room (room : s.hasRoom = true) : ((s.unbound b.number n cause st).receiptSession n).Kept c := by
  obtain ⟨x, hx, hxn, ho, found⟩ := h.closing_session hb hs
  have run := h.run_of_session hb hs
  obtain ⟨linked, claimed⟩ := h
  have e := s.unbound_eq b.number n cause st
  generalize s.unbound b.number n cause st = t at e
  have number (y : Session) : (y.close s.stamp s.tb.clockSet cause).number = y.number := rfl
  have numbers : t.st.sessions.map (·.number) = s.st.sessions.map (·.number) := by
    rw [e]
    exact SessionTable.setSession_numbers number n s.st
  have length : t.st.sessions.length = s.st.sessions.length := by rw [e]; exact SessionTable.setSession_length n _ s.st
  have dropped : t.st.drop n = s.st.drop n := by rw [e]; exact SessionTable.setSession_drop number n s.st
  have mem : ∃ y ∈ t.st.sessions, y.number = n := List.mem_map.1 (numbers ▸ List.mem_map.2 ⟨x, hx, hxn⟩)
  obtain ⟨order, _⟩ := t.receiptSession_rest mem
  refine ⟨⟨t.receiptSession_seated mem ?_ ?_ ?_ ?_ ?_, fun ho => ?_⟩, fun hc => t.receiptSession_claimed mem ?_⟩
  · rw [numbers]
    exact linked.joined.distinct
  · rw [dropped, e]
    exact linked.joined.closing hb hs (fun _ => rfl) (hst.not_charges rfl) hst.2.2 rfl
  · rw [e]
    exact run
  · rw [length, e]
    exact linked.size
  · rw [length, e]
    exact linked.held
  · rw [order, e] at ho
    exact nomatch (linked.full ho).symm.trans room
  · rw [dropped, e, found]
    refine (claimed hc).close linked.joined.distinct hx ho (fun y hy hne => ?_) fun y hy => ?_
    · exact (s.st.mem_drop n y).2 ⟨hy, hxn ▸ hne⟩
    · rw [hxn]
      exact .inl ((s.st.mem_drop n y).1 hy)

/-- A closing without a place in the queue (R124, R125). -/
theorem State.Kept.unbound_full (full : s.hasRoom = false) : ((s.unbound b.number n cause st).askPlace n).Kept c := by
  obtain ⟨x, hx, hxn, ho, found⟩ := h.closing_session hb hs
  have run := h.run_of_session hb hs
  obtain ⟨linked, claimed⟩ := h
  rw [State.unbound_askPlace_full full, found]
  generalize hg : Session.await s.stamp s.tb.clockSet cause = g
  have number (y : Session) : (g y).number = y.number := hg ▸ rfl
  have pending (y : Session) : (g y).state = .pendingReceipt := hg ▸ rfl
  have voucher (y : Session) : (g y).voucher = y.voucher := hg ▸ rfl
  have withdrawn (y : Session) : (g y).flags.withdrawn = y.flags.withdrawn := hg ▸ rfl
  have length : (s.st.queue n g).sessions.length = s.st.sessions.length := SessionTable.setSession_length n g s.st
  refine ⟨⟨⟨linked.joined.queueing hb hs (f := BayRec.closed st) (fun _ => rfl) (hst.not_charges rfl) hst.2.2 rfl number
    pending, length.trans_le linked.size, fun hw => length.trans (linked.held hw), fun h => nomatch run.symm.trans h⟩,
    fun _ => full⟩, fun hc => ?_⟩
  have mem (y : Session) : y ∈ (s.st.queue n g).sessions ↔ y = g x ∨ (y ∈ s.st.sessions ∧ y.number ≠ x.number) := by
    rw [← hxn]
    exact mem_map_keyed (key := Session.number) linked.joined.distinct hx g y
  refine (claimed hc).close linked.joined.distinct hx ho (fun y hy hne => (mem y).2 (.inr ⟨hy, hne⟩)) fun y hy => ?_
  rcases (mem y).1 hy with rfl | other
  · exact .inr ⟨fun h => (nomatch (pending x).symm.trans h), voucher x, withdrawn x⟩
  · exact .inl other

end Unbound

/-- A closing of a bay that does not wait for a slot keeps the laws, whether the bay has a session or not (R124). -/
theorem State.Kept.closeSession (h : s.Kept c) {k : Nat} (hk : k ∉ s.bt.slotWait) (cause : CloseCause) {st : BayState}
    (hst : st.Idle) : (s.closeSession k cause st).Kept c := by
  cases hb : s.bay k with
  | none =>
    rw [s.closeSession_none (by rw [hb]; rfl)]
    exact h.of_unmoved (s.updBay_unmoved _ _ fun b mem e => absurd e (s.not_bay hb b mem))
  | some b =>
    obtain ⟨mem, rfl⟩ := s.mem_of_bay hb
    cases hs : b.session with
    | none =>
      rw [s.closeSession_none (by rw [hb]; exact hs)]
      refine h.idle (f := BayRec.closed st) mem hs (fun _ => rfl) (hst.not_charges rfl) rfl h.1.joined.list
        (fun j => ?_) .inl
      have other : (BayRec.closed st b).state ≠ .waiting := hst.2.2
      simp only [other, and_false, false_or, iff_and_self]
      rintro hj rfl
      exact hk hj
    | some n =>
      rw [s.closeSession_some (n := n) (by rw [hb]; exact hs)]
      cases hr : s.hasRoom with
      | true =>
        rw [State.askPlace_room ((s.unbound_hasRoom _ _ _ _).trans hr)]
        exact h.unbound_room mem hs cause hst hr
      | false =>
        exact h.unbound_full mem hs cause hst hr

/-- A closing admits at most the head of the Slot Wait List. -/
theorem State.closeSession_slotWait (s : State) (k : Nat) (cause : CloseCause) (st : BayState) :
    (s.closeSession k cause st).bt.slotWait = s.bt.slotWait ∨
      (s.closeSession k cause st).bt.slotWait = s.bt.slotWait.tail := by
  cases h : (s.bay k).bind (·.session) with
  | none =>
    rw [s.closeSession_none h]
    exact .inl rfl
  | some n =>
    rw [s.closeSession_some h]
    have list : (s.unbound k n cause st).bt.slotWait = s.bt.slotWait := by rw [s.unbound_eq]; rfl
    rw [← list]
    generalize s.unbound k n cause st = t
    cases hr : t.hasRoom with
    | false =>
      rw [State.askPlace_full hr]
      exact .inl rfl
    | true =>
      rw [State.askPlace_room hr]
      unfold State.receiptSession
      split
      · exact .inl rfl
      · exact .inr (State.admitHead_rest _).2.2.2

/-! ### Freed places (R126, R146) -/

/-- A freed place changes nothing while no session waits for a receipt or the queue has no place to offer. -/
theorem State.fillPlace_idle (h : s.st.pendingOrder = [] ∨ s.hasRoom = false) : s.fillPlace = s := by
  unfold State.fillPlace
  rcases h with h | h
  · rw [h]
    exact ite_self s
  · rw [h]
    rfl

/-- A freed place with a session that waits: its receipt is built (R126). -/
theorem State.fillPlace_pending {n : Nat} {rest : List Nat} (h : s.st.pendingOrder = n :: rest) (hr : s.hasRoom = true) :
    s.fillPlace = State.receiptSession n { s with st := { s.st with pendingOrder := rest } } := by
  unfold State.fillPlace
  rw [hr, h]
  rfl

section Fill

variable (hs : s.Seated) {n : Nat} {rest : List Nat} (h : s.st.pendingOrder = n :: rest) (hr : s.hasRoom = true)
include hs h hr

omit hr in
theorem State.Seated.pending_session : ∃ x ∈ s.st.sessions, x.number = n ∧ x.state = .pendingReceipt :=
  (hs.joined.pending n).1 (by rw [h]; exact List.mem_cons_self)

theorem State.Seated.fillPlace_pending : s.fillPlace.Seated ∧ s.fillPlace.st.pendingOrder = rest ∧
    s.fillPlace.rq.receipts.length = s.rq.receipts.length + 1 ∧
    (s.rq.exhausted = true → s.fillPlace.rq.exhausted = true) := by
  obtain ⟨x, hx, hxn, _⟩ := hs.pending_session h
  have run : s.site = .run := by
    cases e : s.site with
    | run => rfl
    | configure =>
      rw [hs.configure e] at hx
      exact absurd hx List.not_mem_nil
  have mem : ∃ y ∈ ({ s with st := { s.st with pendingOrder := rest } } : State).st.sessions, y.number = n := ⟨x, hx, hxn⟩
  rw [State.fillPlace_pending h hr]
  obtain ⟨order, length, exhausted, _⟩ := State.receiptSession_rest mem
  exact ⟨State.receiptSession_seated mem hs.joined.distinct (hs.joined.settling h) run hs.size hs.held, order, length,
    exhausted⟩

theorem State.Seated.fillPlace_claimed (hc : Claimed s.st.sessions s.vl.vouchers) :
    Claimed s.fillPlace.st.sessions s.fillPlace.vl.vouchers := by
  obtain ⟨x, hx, hxn, hp⟩ := hs.pending_session h
  rw [State.fillPlace_pending h hr]
  refine State.receiptSession_claimed ⟨x, hx, hxn⟩ (hc.of_sessions (fun y hy ho _ => ⟨y, ?_, rfl⟩) fun y hy => ?_)
  · refine (SessionTable.mem_drop _ n y).2 ⟨hy, fun e => ?_⟩
    rw [hs.joined.session_unique hy hx (e.trans hxn.symm), hp] at ho
    exact nomatch ho
  · exact .inl ⟨y, ((SessionTable.mem_drop _ n y).1 hy).1, rfl⟩

end Fill

/-- As many places handed over as are free leave no session waiting while the queue has a place to offer (R126). -/
theorem State.fillPlaces_kept (k : Nat) (hs : s.Seated) (hc : c → Claimed s.st.sessions s.vl.vouchers)
    (places : s.st.pendingOrder = [] ∨ s.rq.exhausted = true ∨ Config.queueSize ≤ s.rq.receipts.length + k) :
    (State.fillPlaces k s).Kept c := by
  induction k generalizing s with
  | zero =>
    refine ⟨⟨hs, fun ho => ?_⟩, hc⟩
    rcases places with none | exhausted | full
    · exact absurd none ho
    · simp [State.fillPlaces, State.hasRoom, exhausted]
    · have : ¬ s.rq.receipts.length < Config.queueSize := Nat.not_lt.2 full
      simp [State.fillPlaces, State.hasRoom, this]
  | succ k ih =>
    have stuck (h : s.st.pendingOrder = [] ∨ s.hasRoom = false) : (State.fillPlaces (k + 1) s).Kept c := by
      have same (k : Nat) : State.fillPlaces k s = s := by
        induction k with
        | zero => rfl
        | succ k ih => rw [State.fillPlaces, State.fillPlace_idle h, ih]
      rw [same]
      refine ⟨⟨hs, fun ho => ?_⟩, hc⟩
      exact h.resolve_left ho
    cases hr : s.hasRoom with
    | false => exact stuck (.inr hr)
    | true =>
      cases ho : s.st.pendingOrder with
      | nil => exact stuck (.inl ho)
      | cons n rest =>
        obtain ⟨seated, order, length, exhausted⟩ := hs.fillPlace_pending ho hr
        refine ih seated (fun h => hs.fillPlace_claimed ho hr (hc h)) ?_
        rcases places with none | done | full
        · exact nomatch ho.symm.trans none
        · exact .inr (.inl (exhausted done))
        · exact .inr (.inr (by omega))

/-- The settled receipts leave the queue, and their places are handed over (R146, R126). -/
theorem State.Kept.settle {queue : ReceiptQueue} (h : s.Kept c) (length : queue.receipts.length = s.rq.receipts.length)
    (exhausted : queue.exhausted = s.rq.exhausted) : (State.settle { s with rq := queue }).Kept c := by
  obtain ⟨linked, claimed⟩ := h
  refine State.fillPlaces_kept _ ⟨linked.joined, linked.size, linked.held, linked.configure⟩ claimed ?_
  by_cases ho : s.st.pendingOrder = []
  · exact .inl ho
  · have full := linked.full ho
    simp only [State.hasRoom, Bool.and_eq_false_iff, decide_eq_false_iff_not, Bool.not_eq_false', Nat.not_lt] at full
    rcases full with full | done
    · refine .inr (.inr ?_)
      have parts := List.length_eq_length_filter_add (l := queue.receipts) Receipt.isSettled
      show Config.queueSize ≤ (queue.receipts.filter fun r => !r.isSettled).length +
        (queue.receipts.filter Receipt.isSettled).length
      omega
    · exact .inr (.inl (exhausted.trans done))

end Sys2Proof.Machine
end

section
/-! The bindings and the claims are kept by every request and every event, and so by every step (R47, R55, R114, R125, R130,
R136, R138, R139). -/

namespace Sys2Proof.Machine

variable {s : State} {c : Prop}

/-! ### Bay reports (R49 to R54) -/

/-- A bay that neither charges nor waits goes to another such state (R51, R58, R59). -/
theorem State.Kept.setBayState (h : s.Kept c) {b : BayRec} (hb : b ∈ s.bt.bays) (hi : b.state.Idle) {st : BayState}
    (hst : st.Idle) : (s.setBayState b.number st).Kept c := by
  have none := h.1.joined.session_none hb (hi.not_charges rfl)
  refine h.idle (f := BayRec.leave st) hb none (fun _ => rfl) (hst.not_charges rfl) none h.1.joined.list (fun k => ?_) .inl
  have other : (BayRec.leave st b).state ≠ .waiting := hst.2.2
  simp only [other, and_false, false_or, iff_and_self]
  rintro hk rfl
  exact h.1.joined.not_mem_list hb hi.2.2 hk

/-- A WAITING bay leaves the Slot Wait List for a state that neither charges nor waits (R51, R55, R58). -/
theorem State.Kept.leaveWait (h : s.Kept c) {b : BayRec} (hb : b ∈ s.bt.bays) (hw : b.state = .waiting) {st : BayState}
    (hst : st.Idle) : ((s.leaveWait b.number).setBayState b.number st).Kept c := by
  have none := h.1.joined.session_none hb fun hc => by
    rcases hc with hc | hc <;> exact nomatch hw.symm.trans hc
  refine h.idle (f := BayRec.leave st) (w := s.bt.slotWait.filter fun j => decide (j ≠ b.number)) hb none (fun _ => rfl)
    (hst.not_charges rfl) none (h.1.joined.list.filter _) (fun k => ?_) fun hl => .inl fun e => hl (by rw [e]; rfl)
  have other : (BayRec.leave st b).state ≠ .waiting := hst.2.2
  simp only [other, and_false, false_or, List.mem_filter, decide_eq_true_iff]
  exact and_comm

/-- A VACANT bay joins the Slot Wait List of a full table (R50, R55). -/
theorem State.Kept.joinWait (h : s.Kept c) {b : BayRec} (hb : b ∈ s.bt.bays) (hi : b.state.Idle)
    (full : s.hasSlot = false) : ((s.setBayState b.number .waiting).joinWait b.number).Kept c := by
  have none := h.1.joined.session_none hb (hi.not_charges rfl)
  have off := h.1.joined.not_mem_list hb hi.2.2
  have slots : s.st.sessions.length = s.sessionSlots := by
    have size := h.1.size
    simp only [State.hasSlot, decide_eq_false_iff_not] at full
    omega
  refine h.idle (f := BayRec.leave .waiting) (w := s.bt.slotWait ++ [b.number]) hb none (fun _ => rfl) (fun hc => ?_) none
    (h.1.joined.list.append (List.nodup_singleton _) (by simpa using off)) (fun k => ?_) fun _ => .inr slots
  · rcases hc with hc | hc <;> exact nomatch hc
  · rw [List.mem_append, List.mem_singleton]
    by_cases hk : k = b.number
    · simp [hk, BayRec.leave]
    · simp [hk]

/-- A VACANT bay opens a session while a slot is free (R50, R117). -/
theorem State.Kept.openSession (h : s.Kept c) (run : s.site = .run) {b : BayRec} (hb : b ∈ s.bt.bays) (hi : b.state.Idle)
    (free : s.hasSlot = true) (base : Nat) : (s.openSession b.number base .active none).Kept c := by
  have slot : s.st.sessions.length < s.sessionSlots := by simpa [State.hasSlot] using free
  obtain ⟨linked, claimed⟩ := h
  have off := linked.joined.not_mem_list hb hi.2.2
  refine ⟨⟨s.openSession_seated linked.joined run slot hb (linked.joined.session_none hb (hi.not_charges rfl))
    linked.joined.list (fun k => ?_) (fun hw => absurd (linked.held hw) slot.ne) base (.inl rfl) none, linked.full⟩,
    fun hc => s.openSession_claimed _ _ _ _ (claimed hc)⟩
  simp only [iff_and_self]
  rintro hk rfl
  exact off hk

/-- A charging bay's reading, with its closing where the vehicle is unplugged (R52, R54). -/
theorem State.Kept.reportCharging (h : s.Kept c) {b : BayRec} (hb : b ∈ s.bt.bays) (hw : b.state ≠ .waiting) (b' : BayRec)
    {x : ReportEntry} (hx : b.number = x.bay) (dt : Nat) : (s.reportCharging b' x dt).Kept c := by
  have read := h.of_unmoved (s.passReading_unmoved b'.session x.reading dt x.connectorMax)
  unfold State.reportCharging
  dsimp only
  split
  · exact read
  · refine read.closeSession ?_ _ ⟨nofun, nofun, nofun⟩
    rw [(s.passReading_unmoved _ _ _ _).list, ← hx]
    exact h.1.joined.not_mem_list hb hw

theorem State.Kept.reportAction (h : s.Kept c) (run : s.site = .run) {b b' : BayRec} (hb : b ∈ s.bt.bays)
    (state : b'.state = b.state) {x : ReportEntry} (hx : b.number = x.bay) (dt : Nat) : (s.reportAction b' x dt).Kept c := by
  unfold State.reportAction
  rw [state, ← hx]
  cases hst : b.state with
  | vacant =>
    have idle : b.state.Idle := hst ▸ ⟨nofun, nofun, nofun⟩
    dsimp only
    split
    · split
      · next free => exact h.openSession run hb idle free x.reading
      · next full => exact h.joinWait hb idle (by simpa using full)
    · exact h
  | waiting =>
    dsimp only
    split
    · exact h
    · exact h.leaveWait hb hst ⟨nofun, nofun, nofun⟩
  | active => exact h.reportCharging hb (hst ▸ nofun) b' hx dt
  | done =>
    dsimp only
    split
    · exact h
    · exact h.setBayState hb (hst ▸ ⟨nofun, nofun, nofun⟩) ⟨nofun, nofun, nofun⟩
  | fallback =>
    have same : (BayRec.leave .active b).link = b.link := by simp [BayRec.link, BayRec.Charges, BayRec.leave, hst]
    have active := h.of_unmoved (s.updBay_unmoved b.number (BayRec.leave .active) fun a ha hn => by
      rw [h.1.joined.bay_unique ha hb hn]
      exact same)
    have mem : BayRec.leave .active b ∈ (s.updBay b.number (BayRec.leave .active)).bt.bays :=
      (h.1.joined.mem_setBay hb _).2 (.inl rfl)
    exact active.reportCharging mem nofun b' hx dt
  | outOfService => exact h

theorem State.Kept.takeEntry (h : s.Kept c) (run : s.site = .run) (x : ReportEntry) : (s.takeEntry x).Kept c := by
  unfold State.takeEntry
  split
  · exact h
  · next b hb =>
    obtain ⟨mem, hn⟩ := s.mem_of_bay hb
    have refreshed : (s.refreshBay b x).bt = s.bt.setBay x.bay (BayRec.refresh s.tb.ms x) := by
      unfold State.refreshBay
      dsimp only
      split
      · obtain ⟨gt, sp, e⟩ := State.lowerByReport_frame (s.updBay x.bay (BayRec.refresh s.tb.ms x)) x.bay
          ((s.updBay x.bay (BayRec.refresh s.tb.ms x)).bayMax (b.refresh s.tb.ms x))
        rw [e]
        rfl
      · rfl
    have unmoved := s.refreshBay_unmoved b x
    refine (h.of_unmoved unmoved).reportAction (unmoved.site.trans run) (b := b.refresh s.tb.ms x) ?_ rfl hn _
    rw [refreshed, ← hn]
    exact (h.1.joined.mem_setBay mem _).2 (.inl rfl)

theorem State.Kept.takeEntries (h : s.Kept c) (run : s.site = .run) (l : List ReportEntry) :
    (takeEntries l s).1.Kept c := by
  induction l generalizing s with
  | nil => exact h
  | cons x l ih =>
    refine ih (h.takeEntry run x) ?_
    obtain ⟨bt, gt, st, vl, rq, sp, e⟩ := s.takeEntry_frame x
    rw [e]
    exact run

theorem State.Kept.handleBayReports (h : s.Kept c) (payload : List Byte) : (handleBayReports payload s).1.Kept c := by
  unfold Machine.handleBayReports
  split
  · exact h
  · next l _ =>
    split
    · exact h
    · next run =>
      split
      · exact h
      · exact h.takeEntries ((s.isRun_iff).1 (by simpa using run)) l

/-! ### Service, ends of sessions and abandonment (R58 to R60, R64) -/

theorem State.Kept.takeOut (h : s.Kept c) {b : BayRec} (hb : b ∈ s.bt.bays) : (s.takeOut b).Kept c := by
  have out : BayState.outOfService.Idle := ⟨nofun, nofun, nofun⟩
  have close (hw : b.state ≠ .waiting) : ((s.closeSession b.number .outOfService .outOfService).outGrant b.number).Kept c :=
    (h.closeSession (h.1.joined.not_mem_list hb hw) _ out).of_unmoved (State.outGrant_unmoved _ _)
  have move (hi : b.state.Idle) : ((s.setBayState b.number .outOfService).outGrant b.number).Kept c :=
    (h.setBayState hb hi out).of_unmoved (State.outGrant_unmoved _ _)
  unfold State.takeOut
  cases hst : b.state with
  | active => exact close (hst ▸ nofun)
  | fallback => exact close (hst ▸ nofun)
  | waiting => exact (h.leaveWait hb hst out).of_unmoved (State.outGrant_unmoved _ _)
  | vacant => exact move (hst ▸ ⟨nofun, nofun, nofun⟩)
  | done => exact move (hst ▸ ⟨nofun, nofun, nofun⟩)
  | outOfService => exact h

theorem State.Kept.takeIn (h : s.Kept c) {b : BayRec} (hb : b ∈ s.bt.bays) : (s.takeIn b).Kept c := by
  unfold State.takeIn
  split
  · next hst => exact h.setBayState hb (hst ▸ ⟨nofun, nofun, nofun⟩) ⟨nofun, nofun, nofun⟩
  all_goals exact h

theorem State.Kept.handleSetBayService (h : s.Kept c) (payload : List Byte) :
    (handleSetBayService payload s).1.Kept c := by
  unfold Machine.handleSetBayService
  split
  · exact h
  · split
    · exact h
    · split
      · exact h
      · next b hb =>
        obtain ⟨mem, _⟩ := s.mem_of_bay hb
        dsimp only
        split
        · exact h.takeIn mem
        · exact h.takeOut mem

theorem State.Kept.handleEndSession (h : s.Kept c) (payload : List Byte) : (handleEndSession payload s).1.Kept c := by
  unfold Machine.handleEndSession
  split
  · exact h
  · split
    · exact h
    · split
      · exact h
      · split
        · exact h
        · next b hb =>
          obtain ⟨mem, rfl⟩ := s.mem_of_bay hb
          split
          · next hst => exact h.closeSession (h.1.joined.not_mem_list mem (hst ▸ nofun)) _ ⟨nofun, nofun, nofun⟩
          · exact h

/-- Abandoned bays do not wait for a slot, and closings put no bay on the Slot Wait List (R64). -/
theorem State.Kept.abandonAll (h : s.Kept c) (ks : List Nat) (off : ∀ k ∈ ks, k ∉ s.bt.slotWait) :
    (ks.foldl State.abandonBay s).Kept c := by
  induction ks generalizing s with
  | nil => exact h
  | cons k ks ih =>
    refine ih (h.closeSession (off k List.mem_cons_self) _ ⟨nofun, nofun, nofun⟩) fun j hj hw => ?_
    refine off j (List.mem_cons_of_mem _ hj) ?_
    rcases s.closeSession_slotWait k .abandoned .done with e | e
    · exact e ▸ hw
    · exact List.mem_of_mem_tail (e ▸ hw)

theorem State.Kept.abandon (h : s.Kept c) : s.abandon.Kept c := by
  unfold State.abandon
  split
  · refine h.abandonAll _ fun k hk => ?_
    obtain ⟨b, hb, rfl⟩ := List.mem_map.1 hk
    obtain ⟨hb, abandoned⟩ := List.mem_filter.1 hb
    simp only [State.isAbandoned, Bool.and_eq_true, decide_eq_true_iff] at abandoned
    obtain ⟨⟨_, hst⟩, _⟩ := abandoned
    exact h.1.joined.not_mem_list hb (hst ▸ nofun)
  · exact h

/-! ### Vouchers (R133 to R138) -/

theorem State.Kept.vouchers (h : s.Kept c) {vl : VoucherList}
    (hv : Claimed s.st.sessions s.vl.vouchers → Claimed s.st.sessions vl.vouchers) : State.Kept c { s with vl := vl } :=
  ⟨⟨⟨h.1.joined, h.1.size, h.1.held, h.1.configure⟩, h.1.full⟩, fun hc => hv (h.2 hc)⟩

/-- One session's record changes, and not where it sits; the vouchers change with it. -/
theorem State.Kept.updSession (h : s.Kept c) {n : Nat} {g : Session → Session} (hg : ∀ x, (g x).seat = x.seat)
    {vl : VoucherList}
    (hv : Claimed s.st.sessions s.vl.vouchers → Claimed (s.st.setSession n g).sessions vl.vouchers) :
    State.Kept c { s with st := s.st.setSession n g, vl := vl } := by
  have seats : (s.st.setSession n g).sessions.map Session.seat = s.st.sessions.map Session.seat := by
    rw [SessionTable.setSession, List.map_map]
    refine List.map_congr_left fun x _ => ?_
    simp only [Function.comp_apply, apply_ite Session.seat, hg, ite_self]
  have length := SessionTable.setSession_length n g s.st
  refine ⟨⟨⟨h.1.joined.of_links rfl rfl seats rfl rfl, length.trans_le h.1.size, fun hw => length.trans (h.1.held hw),
    fun hc => ?_⟩, h.1.full⟩, fun hc => hv (h.2 hc)⟩
  rw [← List.length_eq_zero_iff, length, h.1.configure hc]
  rfl

theorem State.Kept.handlePostVoucher (h : s.Kept c) (body : Body PostFields) : (handlePostVoucher body s).1.Kept c := by
  unfold Machine.handlePostVoucher
  split
  · exact h
  · next q =>
    split
    · exact h
    · split
      · exact h
      · next new =>
        split
        · exact h
        · split
          · exact h
          · refine h.vouchers fun hc => hc.post ?_ rfl rfl
            simpa [State.voucher, State.newVoucher] using new

/-- The session that a claim binds is OPEN, of the bay, and names no voucher (R135). -/
theorem State.Kept.claimable (h : s.Kept c) {k : Nat} {x : Session} (hx : s.claimable k = some x) :
    x ∈ s.st.sessions ∧ x.state = .opened ∧ x.bay = k ∧ x.voucher = none := by
  unfold State.claimable at hx
  split at hx
  · exact nomatch hx
  · next b hb =>
    obtain ⟨memb, rfl⟩ := s.mem_of_bay hb
    split at hx
    · split at hx
      · exact nomatch hx
      · next y hy =>
        obtain ⟨n, hn, found⟩ := Option.bind_eq_some_iff.1 hy
        split at hx
        · next none =>
          cases hx
          obtain ⟨memx, number⟩ := s.mem_of_session found
          obtain ⟨z, hz, bay, number', opened⟩ := h.1.joined.opened_of_session memb hn
          rw [h.1.joined.session_unique memx hz (number.trans number'.symm)]
          exact ⟨hz, opened, bay, by
            rw [← h.1.joined.session_unique memx hz (number.trans number'.symm)]
            simpa using none⟩
        · exact nomatch hx
    · exact nomatch hx

theorem State.Kept.handleClaimVoucher (h : s.Kept c) (body : Body ClaimFields) :
    (handleClaimVoucher body s).1.Kept c := by
  unfold Machine.handleClaimVoucher
  split
  · exact h
  · split
    · exact h
    · split
      · exact h
      · split
        · exact h
        · next q _ _ v hv =>
          split
          · exact h
          · next hst =>
            split
            · exact h
            · next x hx =>
              obtain ⟨memv, _⟩ := s.mem_of_voucher hv
              obtain ⟨memx, opened, bay, none⟩ := h.claimable hx
              refine h.updSession (n := x.number)
                (g := fun y => { y with voucher := some v.number, creditGranted := v.credit, creditLeft := v.credit })
                (fun _ => rfl) fun hc => ?_
              have unclaimed : v.state = .unclaimed := by simpa using hst
              exact hc.bind h.1.joined.distinct memv memx (.inl ⟨(hc.bound v memv).1 unclaimed, none⟩) (fun _ => rfl) rfl
                nofun (fun _ => rfl) ⟨rfl, opened, rfl, congrArg some bay.symm, rfl, hc.unnamed x memx none⟩

theorem State.Kept.handleWithdrawVoucher (h : s.Kept c) (body : Body Word) : (handleWithdrawVoucher body s).1.Kept c := by
  unfold Machine.handleWithdrawVoucher
  split
  · exact h
  · split
    · exact h
    · next v hv =>
      obtain ⟨memv, _⟩ := s.mem_of_voucher hv
      split
      · next hst =>
        refine h.vouchers fun hc => hc.remove_unbound _ fun w hw hn => ?_
        rw [hc.voucher_unique hw memv (by simpa using hn)]
        exact (hc.bound v memv).1 hst
      · next hst =>
        cases hn : v.session with
        | none =>
          refine h.vouchers fun hc => ?_
          exact nomatch hst.symm.trans ((hc.bound v memv).2 hn)
        | some n =>
          refine h.updSession (n := n)
            (g := fun y => { y with creditLeft := 0, flags := { y.flags with withdrawn := true } })
            (fun _ => rfl) fun hc => ?_
          obtain ⟨x, hx, hb⟩ := hc.claimed v memv n hn
          have number := hb.number
          subst number
          exact hc.bind h.1.joined.distinct memv hx (.inr hn) (fun _ => rfl) hn nofun (fun _ => rfl)
            ⟨rfl, hb.opened, hb.voucher, hb.bay, hb.credit, rfl⟩
      · exact h

theorem State.Kept.expireVouchers (h : s.Kept c) : s.expireVouchers.Kept c := by
  obtain ⟨sp, e⟩ := State.raiseExpiredAll_frame
    { s with vl := { vouchers := s.vl.vouchers.filter fun v => !v.isExpired s.tb.monoMin } }
    (s.vl.vouchers.filter (Voucher.isExpired s.tb.monoMin))
  unfold State.expireVouchers
  dsimp only
  rw [e]
  refine State.Kept.of_unmoved {} (h.vouchers (vl := ⟨_⟩) fun hc => hc.remove_unbound _ fun v hv expired => ?_)
  simp only [Voucher.isExpired, Bool.not_eq_false', decide_eq_true_iff] at expired
  exact (hc.bound v hv).1 expired.1

/-! ### Receipts (R149, R150) -/

theorem State.Kept.handleTakeReceipt (h : s.Kept c) (p : Port) (body : Body Word) :
    (handleTakeReceipt p body s).1.Kept c := by
  unfold Machine.handleTakeReceipt
  split
  · exact h
  · split
    · exact h
    · split
      · exact h.settle (List.length_map _) rfl
      · exact h

theorem State.Kept.releaseTillHold (h : s.Kept c) : s.releaseTillHold.Kept c := by
  unfold State.releaseTillHold
  split
  · exact h.settle (List.length_map _) rfl
  · exact h

/-! ### The site state (R130, R171, R172) -/

/-- In CONFIGURE no bay names a session, and none waits for a slot. -/
theorem State.Seated.unbound_of_configure (h : s.Seated) (site : s.site = .configure) :
    s.bt.slotWait = [] ∧ ∀ b ∈ s.bt.bays, b.session = none ∧ b.state ≠ .waiting := by
  have empty := h.configure site
  have list : s.bt.slotWait = [] := by
    by_contra hw
    have := h.held hw
    rw [empty, State.sessionSlots] at this
    exact absurd this (Nat.succ_ne_zero _).symm
  refine ⟨list, fun b hb => ⟨?_, fun hw => ?_⟩⟩
  · cases hs : b.session with
    | none => rfl
    | some n =>
      obtain ⟨x, hx, _⟩ := h.joined.opened_of_session hb hs
      rw [empty] at hx
      exact absurd hx List.not_mem_nil
  · have := (h.joined.mem_list_iff hb).2 hw
    rw [list] at this
    exact absurd this List.not_mem_nil

/-- A record above the bay count in use looks as before once it is at its power-up values (R45). -/
theorem State.freshenBays_unmoved (h : s.Seated) (site : s.site = .configure) : s.Unmoved s.freshenBays := by
  refine s.mapBays_unmoved _ fun b hb => ?_
  split
  · obtain ⟨none, waits⟩ := (h.unbound_of_configure site).2 b hb
    have charges : ¬ b.Charges := fun hc => by
      have := (h.joined.naming b hb).1 hc
      rw [none] at this
      exact nomatch this
    have fresh : ¬ (BayRec.fresh b.number).Charges := fun hc => by
      rcases hc with hc | hc <;> exact nomatch hc
    refine ((BayRec.fresh b.number).link_eq_iff b).2 ⟨rfl, iff_of_false fresh charges, iff_of_false nofun waits, none.symm⟩
  · rfl

theorem State.zeroEpochs_unmoved (s : State) : s.Unmoved s.zeroEpochs := {}
theorem State.commitLimits_unmoved (s : State) : s.Unmoved s.commitLimits := {}
theorem State.openFirstWindow_unmoved (s : State) : s.Unmoved s.openFirstWindow := {}
theorem State.commitAllocator_unmoved (s : State) : s.Unmoved s.commitAllocator := {}
theorem State.startSchedule_unmoved (s : State) : s.Unmoved s.startSchedule := {}

theorem State.lapsePresent_unmoved (s : State) (p : Port) : s.Unmoved (s.lapsePresent p) :=
  State.Unmoved.ite {} (.refl s)

theorem State.Kept.commit (h : s.Kept c) (site : s.site = .configure) : s.commit.Kept c := by
  have fresh := h.of_unmoved (State.freshenBays_unmoved h.1.toSeated site)
  have entered : State.Kept c (State.freshenBays { s with site := .run }) :=
    ⟨⟨⟨fresh.1.joined, fresh.1.size, fresh.1.held, nofun⟩, fresh.1.full⟩, fresh.2⟩
  have limited := (entered.of_unmoved (State.zeroEpochs_unmoved _)).of_unmoved (State.commitLimits_unmoved _)
  have begun := ((limited.of_unmoved (State.openFirstWindow_unmoved _)).of_unmoved
    (State.commitAllocator_unmoved _)).of_unmoved (State.startSchedule_unmoved _)
  have treated := begun.of_unmoved (State.lapseTreatment_unmoved _)
  exact ((treated.of_unmoved (State.lapsePresent_unmoved _ .network)).of_unmoved
    (State.lapsePresent_unmoved _ .till)).of_unmoved (State.lapsePresent_unmoved _ .energy)

theorem State.Kept.handleCommitSite (h : s.Kept c) (payload : List Byte) : (handleCommitSite payload s).1.Kept c := by
  cases payload with
  | cons b l => exact h
  | nil =>
    simp only [Machine.handleCommitSite, bareRequest]
    split
    · exact h
    · next run =>
      have site : s.site = .configure := by
        cases e : s.site with
        | configure => rfl
        | run => exact absurd ((s.isRun_iff).2 e) run
      split
      · exact h
      · exact h.commit site

theorem State.Kept.handleEnterConfigure (h : s.Kept c) (payload : List Byte) :
    (handleEnterConfigure payload s).1.Kept c := by
  cases payload with
  | cons b l => exact h
  | nil =>
    simp only [Machine.handleEnterConfigure, bareRequest]
    split
    · exact h
    · split
      · next empty =>
        obtain ⟨site, tb, dg, al, gt, so, sp, e⟩ := s.configure_frame
        rw [e]
        exact ⟨⟨⟨h.1.joined, h.1.size, h.1.held, fun _ => List.isEmpty_iff.1 empty⟩, h.1.full⟩, h.2⟩
      · exact h

/-! ### Resets (R173) -/

theorem State.powerUp_kept (c : Prop) (straps : Straps) (kind : Nat) (pending : List Instr) :
    (State.powerUp straps kind pending).Kept c :=
  ⟨(State.powerUp_bindingsOk straps kind pending).linked (State.powerUp_tablesOk straps kind pending)
      (State.powerUp_sessionsOk straps kind pending),
    fun _ => (State.claimed_iff (State.powerUp_vouchersOk straps kind pending)).1
      (State.powerUp_claimsOk straps kind pending)⟩

theorem State.restore_unmoved (tables : s.TablesOk) {straps : Straps} (valid : s.rd.isValid straps = true) :
    s.Unmoved (s.restore straps) where
  slots := congrArg (· + Config.spareSlots) (bayCount_of_isValid valid tables).2.2
  bays := by
    show (s.bt.bays.map BayRec.restart).map BayRec.link = _
    rw [List.map_map]
    rfl

theorem State.Kept.release (h : s.Kept c) (tables : s.TablesOk) (straps : Straps) : (s.release straps).Kept c := by
  unfold State.release
  split
  · exact h
  · exact State.powerUp_kept c _ _ _
  · split
    · next valid =>
      have restored := s.restore_unmoved tables valid
      exact h.of_unmoved (State.Unmoved.ite (restored.trans (State.lapseTreatment_unmoved _)) restored)
    · exact State.powerUp_kept c _ _ _

/-! ### Requests that leave the bindings unmoved -/

variable (s)

/-- A request without payload that changes nothing when it is taken changes nothing at all. -/
theorem bareRequest_state (payload : List Byte) (h : Handler) (hh : (h s).1 = s) : (bareRequest payload h s).1 = s := by
  cases payload with
  | nil => exact hh
  | cons b l => rfl

theorem handleReadSession_state (body : Body SessionSelector) : (handleReadSession body s).1 = s := by
  have number (n : Nat) : (readNumber n s).1 = s := by
    unfold readNumber
    split <;> rfl
  unfold handleReadSession
  split
  · rfl
  · rfl
  · split
    · rfl
    · exact number _
  · split
    · split
      · rfl
      · exact number _
    · rfl

theorem handleReadBay_state (payload : List Byte) : (handleReadBay payload s).1 = s := by
  unfold handleReadBay
  split
  · rfl
  · split
    · rfl
    · split <;> rfl

theorem handleReadVoucher_state (body : Body Word) : (handleReadVoucher body s).1 = s := by
  unfold handleReadVoucher
  split
  · rfl
  · split <;> rfl

theorem handlePeekReceipt_state (p : Port) (payload : List Byte) : (handlePeekReceipt p payload s).1 = s :=
  bareRequest_state s payload _ (by split <;> rfl)

theorem handlePing_unmoved (p : Port) (payload : List Byte) : s.Unmoved (handlePing p payload s).1 := by
  unfold handlePing
  split
  · exact .refl s
  · exact State.Unmoved.ite {} (.refl s)

theorem handleReadNotice_unmoved (p : Port) (payload : List Byte) : s.Unmoved (handleReadNotice p payload s).1 := by
  unfold handleReadNotice
  split
  · exact .refl s
  · next name _ =>
    obtain ⟨sp, e⟩ := s.clearNotice_frame p (s.selectNotice p name)
    dsimp only
    rw [e]
    exact {}

theorem handleSetNoticeMask_unmoved (p : Port) (payload : List Byte) : s.Unmoved (handleSetNoticeMask p payload s).1 := by
  unfold handleSetNoticeMask
  split
  · exact .refl s
  · exact {}

theorem handleWriteConfig_unmoved (body : Body (List ConfigPair)) : s.Unmoved (handleWriteConfig body s).1 := by
  unfold handleWriteConfig
  split
  · exact .refl s
  · split
    · exact .refl s
    · split
      · exact .refl s
      · exact {}

theorem handleSetLimits_unmoved (body : Body LimitFields) : s.Unmoved (handleSetLimits body s).1 := by
  unfold handleSetLimits
  split
  · exact .refl s
  · split
    · exact .refl s
    · exact {}

theorem handleSetTariff_unmoved (body : Body (List BandFields)) : s.Unmoved (handleSetTariff body s).1 := by
  unfold handleSetTariff
  split
  · exact .refl s
  · split
    · exact {}
    · exact .refl s

theorem handleSetClock_unmoved (payload : List Byte) : s.Unmoved (handleSetClock payload s).1 := by
  unfold handleSetClock
  split
  · exact .refl s
  · next minute seconds _ =>
    have set : s.Unmoved { s with tb := s.tb.setClock minute seconds } := {}
    obtain ⟨dg, sp, e⟩ := State.clockCut_frame { s with tb := s.tb.setClock minute seconds } s
    refine State.Unmoved.ite ?_ set
    rw [e]
    exact {}

theorem handleReadSite_unmoved (payload : List Byte) : s.Unmoved (handleReadSite payload s).1 := by
  cases payload with
  | nil => exact {}
  | cons b l => exact .refl s

theorem handleAckGrants_unmoved (payload : List Byte) : s.Unmoved (handleAckGrants payload s).1 := by
  unfold handleAckGrants
  split
  · exact .refl s
  · split
    · exact .refl s
    · exact State.Unmoved.ite (.refl s) {}

/-! ### Every command -/

variable {s}

/-- A request keeps the laws if its block does. -/
theorem State.Kept.request (h : s.Kept c) {ports : List Port} {p : Port} {tag code : Byte} {f : Handler}
    (hf : ∀ s : State, s.Kept c → (f s).1.Kept c) : (takeRequest ports p tag code f s).Kept c := by
  have arrived := h.of_unmoved (s.arrive_unmoved p)
  unfold takeRequest
  split
  · exact h
  · split
    · obtain ⟨sp, e⟩ := s.countOverrun_frame p
      rw [e]
      exact h.of_unmoved {}
    · dsimp only
      split
      · exact (hf _ arrived).of_unmoved {}
      · exact arrived.of_unmoved {}

/-- A request whose block leaves the bindings unmoved keeps the laws. -/
theorem State.Kept.quietRequest (h : s.Kept c) {ports : List Port} {p : Port} {tag code : Byte} {f : Handler}
    (hf : ∀ s : State, s.Unmoved (f s).1) : (takeRequest ports p tag code f s).Kept c :=
  h.request fun s hs => hs.of_unmoved (hf s)

/-- A request that reads the state keeps the laws. -/
theorem State.Kept.readRequest (h : s.Kept c) {ports : List Port} {p : Port} {tag code : Byte} {f : Handler}
    (hf : ∀ s : State, (f s).1 = s) : (takeRequest ports p tag code f s).Kept c :=
  h.request fun s hs => (hf s).symm ▸ hs

/-- An event keeps the laws if its effect does. -/
theorem State.Kept.event (h : s.Kept c) {f : State → State} (hf : s.Kept c → (f s).Kept c) : (unlessHeld f s).Kept c := by
  unfold unlessHeld
  split
  · exact h
  · exact hf h

/-- An event whose effect leaves the bindings unmoved keeps the laws. -/
theorem State.Kept.quietEvent (h : s.Kept c) {f : State → State} (hf : s.Unmoved (f s)) : (unlessHeld f s).Kept c :=
  h.event fun hs => hs.of_unmoved hf

theorem State.sampleChannel_unmoved (s : State) (ch : Channel) (level : Bool) : s.Unmoved (s.sampleChannel ch level) := by
  obtain ⟨mi, dg, e⟩ := s.sampleChannel_frame ch level
  rw [e]
  exact {}

theorem State.sampleBound_unmoved (s : State) (b : BoundLine) (level : Bool) : s.Unmoved (s.sampleBound b level) := by
  obtain ⟨mi, sp, e⟩ := s.sampleBound_frame b level
  rw [e]
  exact {}

/-- Every command has a next state, and the laws hold there. -/
theorem State.Kept.exec (h : s.Kept c) (tables : s.TablesOk) (i : Instr) : ∃ t, exec i s = .next t ∧ t.Kept c := by
  cases i with
  | ping p tag payload => exact ⟨_, rfl, h.quietRequest (handlePing_unmoved · p payload)⟩
  | readNotice p tag payload => exact ⟨_, rfl, h.quietRequest (handleReadNotice_unmoved · p payload)⟩
  | setNoticeMask p tag payload => exact ⟨_, rfl, h.quietRequest (handleSetNoticeMask_unmoved · p payload)⟩
  | writeConfig p tag body => exact ⟨_, rfl, h.quietRequest (handleWriteConfig_unmoved · body)⟩
  | readConfig p tag payload => exact ⟨_, rfl, h.readRequest (bareRequest_state · payload _ rfl)⟩
  | commitSite p tag payload => exact ⟨_, rfl, h.request fun _ hs => hs.handleCommitSite payload⟩
  | enterConfigure p tag payload => exact ⟨_, rfl, h.request fun _ hs => hs.handleEnterConfigure payload⟩
  | setLimits p tag body => exact ⟨_, rfl, h.quietRequest (handleSetLimits_unmoved · body)⟩
  | setTariff p tag body => exact ⟨_, rfl, h.quietRequest (handleSetTariff_unmoved · body)⟩
  | setClock p tag payload => exact ⟨_, rfl, h.quietRequest (handleSetClock_unmoved · payload)⟩
  | readSite p tag payload => exact ⟨_, rfl, h.quietRequest (handleReadSite_unmoved · payload)⟩
  | readWindows p tag payload => exact ⟨_, rfl, h.readRequest (bareRequest_state · payload _ rfl)⟩
  | readChannels p tag payload => exact ⟨_, rfl, h.readRequest (bareRequest_state · payload _ rfl)⟩
  | readSession p tag body => exact ⟨_, rfl, h.readRequest (handleReadSession_state · body)⟩
  | bayReports p tag payload => exact ⟨_, rfl, h.request fun _ hs => hs.handleBayReports payload⟩
  | readGrants p tag payload => exact ⟨_, rfl, h.readRequest fun _ => rfl⟩
  | ackGrants p tag payload => exact ⟨_, rfl, h.quietRequest (handleAckGrants_unmoved · payload)⟩
  | endSession p tag payload => exact ⟨_, rfl, h.request fun _ hs => hs.handleEndSession payload⟩
  | setBayService p tag payload => exact ⟨_, rfl, h.request fun _ hs => hs.handleSetBayService payload⟩
  | claimVoucher p tag body => exact ⟨_, rfl, h.request fun _ hs => hs.handleClaimVoucher body⟩
  | readBay p tag payload => exact ⟨_, rfl, h.readRequest (handleReadBay_state · payload)⟩
  | postVoucher p tag body => exact ⟨_, rfl, h.request fun _ hs => hs.handlePostVoucher body⟩
  | withdrawVoucher p tag body => exact ⟨_, rfl, h.request fun _ hs => hs.handleWithdrawVoucher body⟩
  | readVoucher p tag body => exact ⟨_, rfl, h.readRequest (handleReadVoucher_state · body)⟩
  | peekReceipt p tag payload => exact ⟨_, rfl, h.readRequest (handlePeekReceipt_state · p payload)⟩
  | takeReceipt p tag body => exact ⟨_, rfl, h.request fun _ hs => hs.handleTakeReceipt p body⟩
  | frameDiscard p =>
    refine ⟨_, rfl, h.quietEvent ?_⟩
    obtain ⟨sp, e⟩ := s.discardFrame_frame p
    rw [e]
    exact {}
  | overrun p => exact ⟨_, rfl, h.quietEvent (State.Unmoved.ite {} (.refl s))⟩
  | unknownCommand p tag code =>
    refine ⟨_, rfl, h.quietEvent ?_⟩
    obtain ⟨sp, e⟩ := s.unknownFrame_frame p tag code
    rw [e]
    exact {}
  | responseEnd p => exact ⟨_, rfl, h.quietEvent {}⟩
  | monotonicMinuteEvent => exact ⟨_, rfl, h.quietEvent (State.Unmoved.ite {} (.refl s))⟩
  | clockMinuteEvent => exact ⟨_, rfl, h.quietEvent {}⟩
  | roundTick => exact ⟨_, rfl, h.quietEvent (s.tick_unmoved.ite (.refl s))⟩
  | staleMark k => exact ⟨_, rfl, h.quietEvent ((s.markStaleBay_unmoved k).ite (.refl s))⟩
  | periodEnd =>
    refine ⟨_, rfl, h.quietEvent ?_⟩
    obtain ⟨jl, tb, so, e⟩ := s.endPeriod_frame
    rw [e]
    exact {}
  | presenceExpiry p => exact ⟨_, rfl, h.quietEvent (s.expirePresence_unmoved p)⟩
  | silenceExpiry ch =>
    refine ⟨_, rfl, h.quietEvent ?_⟩
    obtain ⟨mi, sp, e⟩ := s.expireSilence_frame ch
    rw [e]
    exact {}
  | overdueExpiry k =>
    refine ⟨_, rfl, h.quietEvent ?_⟩
    obtain ⟨gt, e⟩ := s.expireOverdue_frame k
    rw [e]
    exact {}
  | windowEnd =>
    refine ⟨_, rfl, h.quietEvent ?_⟩
    obtain ⟨dg, sp, e⟩ := s.endWindow_frame
    rw [e]
    exact {}
  | voucherExpiry => exact ⟨_, rfl, h.event State.Kept.expireVouchers⟩
  | abandonment => exact ⟨_, rfl, h.event State.Kept.abandon⟩
  | tillHoldRelease => exact ⟨_, rfl, h.event State.Kept.releaseTillHold⟩
  | pulse ch => exact ⟨_, rfl, h.quietEvent ((s.sampleChannel_unmoved ch _).ite (.refl s))⟩
  | inactiveLevelChange ch level => exact ⟨_, rfl, h.quietEvent ((s.sampleChannel_unmoved ch level).ite (.refl s))⟩
  | boundAssertion b => exact ⟨_, rfl, h.quietEvent ((s.sampleBound_unmoved b true).ite (.refl s))⟩
  | boundDeassertion b => exact ⟨_, rfl, h.quietEvent ((s.sampleBound_unmoved b false).ite (.refl s))⟩
  | powerUpReset => exact ⟨_, rfl, (State.powerUp_kept c s.straps 1 s.pending).of_unmoved {}⟩
  | pinReset => exact ⟨_, rfl, h.of_unmoved {}⟩
  | resetRelease size1 size0 speed => exact ⟨_, rfl, h.release tables _⟩
  | vbakFailure => exact ⟨_, rfl, h.of_unmoved {}⟩
  | filterSample line level =>
    refine ⟨_, rfl, h.quietEvent ?_⟩
    cases line with
    | channel ch => exact s.sampleChannel_unmoved ch level
    | bound b => exact s.sampleBound_unmoved b level
  | characterReceived p byte stopLow => exact ⟨_, rfl, h.quietEvent {}⟩
  | receiverGap p => exact ⟨_, rfl, h.quietEvent {}⟩

/-- Every step keeps the laws: a command taken from the queue, or an empty queue. -/
theorem State.Kept.step {t : State} (h : s.Kept c) (tables : s.TablesOk) (hstep : step s = .next t) : t.Kept c := by
  unfold Machine.step at hstep
  split at hstep
  · cases hstep
    exact h
  · next i rest _ =>
    have queued : State.Kept c { s with pending := rest } := h.of_unmoved {}
    have shape : State.TablesOk { s with pending := rest } := tables.of_alike (s.alike_records s.jl s.held s.st s.vl s.rq s.sp rest)
    obtain ⟨u, hu, kept⟩ := queued.exec shape i
    rw [hu] at hstep
    cases hstep
    exact kept

/-- Settles O59: the bindings and the claims as one invariant of the tables, the claims only where they hold before. -/
theorem stepKeepsBindings : Obligations.StepKeepsBindings := by
  intro s t tables sessions _ bindings hstep
  have linked := bindings.linked tables sessions
  refine ⟨?_, fun vouchers claims => ?_⟩
  · have kept : s.Kept False := ⟨linked, False.elim⟩
    exact (kept.step tables hstep).1.bindingsOk
  · have kept : s.Kept True := ⟨linked, fun _ => (State.claimed_iff vouchers).1 claims⟩
    exact ((kept.step tables hstep).2 trivial).claimsOk

end Sys2Proof.Machine
end

section
/-! BAY REPORTS (R48, R49, R167): the bytes of its entries, the checks of the whole request, and the entries taken in turn. -/

namespace Sys2Proof.Machine

/-! ### The bytes of the entries (R48, R167) -/

/-- The twelve bytes of an entry (R167). -/
def ReportEntry.bytes (x : ReportEntry) : List Byte :=
  [BitVec.ofNat 8 x.bay, BitVec.ofNat 8 x.plugged.toNat] ++ bytes16 x.request ++ bytes16 x.measured ++
    bytes16 x.connectorMax ++ bytes32 x.reading

/-- Every field of an entry fits its bytes. -/
structure ReportEntry.Fits (x : ReportEntry) : Prop where
  bay : x.bay < 256
  request : x.request < 65536
  measured : x.measured < 65536
  connectorMax : x.connectorMax < 65536
  reading : x.reading < 4294967296

theorem be16_bytes16 {n : Nat} (h : n < 65536) : be16 (BitVec.ofNat 8 (n / 256)) (BitVec.ofNat 8 n) = n := by
  simp only [be16, BitVec.toNat_ofNat]
  omega

theorem be32_bytes32 {n : Nat} (h : n < 4294967296) : be32 (BitVec.ofNat 8 (n / 16777216)) (BitVec.ofNat 8 (n / 65536))
    (BitVec.ofNat 8 (n / 256)) (BitVec.ofNat 8 n) = n := by
  simp only [be32, BitVec.toNat_ofNat]
  omega

/-- An entry's bytes in front of others are read as that entry. -/
theorem reportEntries_bytes_append {x : ReportEntry} (hx : x.Fits) (n : Nat) (rest : List Byte) :
    reportEntries (n + 1) (x.bytes ++ rest) = (reportEntries n rest).map (x :: ·) := by
  have plug : (BitVec.ofNat 8 x.plugged.toNat).toNat ≤ 1 ∧ decide (BitVec.ofNat 8 x.plugged.toNat = 1) = x.plugged := by
    cases x.plugged <;> decide
  have bay : (BitVec.ofNat 8 x.bay).toNat = x.bay := by
    rw [BitVec.toNat_ofNat]
    exact Nat.mod_eq_of_lt hx.bay
  simp only [ReportEntry.bytes, bytes16, bytes32, List.cons_append, List.nil_append, reportEntries, if_pos plug.1, plug.2, bay,
    be16_bytes16 hx.request, be16_bytes16 hx.measured, be16_bytes16 hx.connectorMax, be32_bytes32 hx.reading]

theorem reportEntries_flatMap_bytes {l : List ReportEntry} (hl : ∀ x ∈ l, x.Fits) :
    reportEntries l.length (l.flatMap ReportEntry.bytes) = some l := by
  induction l with
  | nil => rfl
  | cons x l ih =>
    obtain ⟨hx, hl⟩ := List.forall_mem_cons.1 hl
    rw [List.flatMap_cons, List.length_cons, reportEntries_bytes_append hx, ih hl]
    rfl

/-- Entries that do not fill the payload exactly are none. -/
theorem reportEntries_of_length {n : Nat} {rest : List Byte} (h : rest.length ≠ 12 * n) : reportEntries n rest = none := by
  induction n generalizing rest with
  | zero =>
    cases rest with
    | nil => exact absurd rfl h
    | cons b rest => rfl
  | succ n ih =>
    unfold reportEntries
    split
    · next e => exact absurd e (Nat.succ_ne_zero n)
    · next m k plug q1 q0 m1 m0 c1 c0 r3 r2 r1 r0 rest e =>
      cases e
      rw [ih fun e => h (by simp only [List.length_cons, e]; omega)]
      exact ite_self _
    · rfl

/-- A plug state that is neither 0 nor 1 spoils the entries. -/
theorem reportEntries_of_plug {n i : Nat} {rest : List Byte} {plug : Byte} (hi : i < n)
    (hp : rest[12 * i + 1]? = some plug) (h : 2 ≤ plug.toNat) : reportEntries n rest = none := by
  induction n generalizing rest i with
  | zero => exact absurd hi (Nat.not_lt_zero i)
  | succ n ih =>
    unfold reportEntries
    split
    · next e => exact absurd e (Nat.succ_ne_zero n)
    · next m k plug' q1 q0 m1 m0 c1 c0 r3 r2 r1 r0 rest e =>
      cases e
      cases i with
      | zero =>
        cases hp
        exact if_neg (by omega)
      | succ i =>
        rw [ih (Nat.lt_of_succ_lt_succ hi) hp]
        exact ite_self _
    · rfl

/-! ### The request as a whole (R48) -/

variable (s : State)

section Arrival

variable (p : Port)

@[simp] theorem State.arrive_site : (s.arrive p).site = s.site := by
  obtain ⟨gt, rq, sp, h⟩ := s.arrive_frame p
  rw [h]

@[simp] theorem State.arrive_cfg : (s.arrive p).cfg = s.cfg := by
  obtain ⟨gt, rq, sp, h⟩ := s.arrive_frame p
  rw [h]

@[simp] theorem State.arrive_tb : (s.arrive p).tb = s.tb := by
  obtain ⟨gt, rq, sp, h⟩ := s.arrive_frame p
  rw [h]

@[simp] theorem State.arrive_bt : (s.arrive p).bt = s.bt := by
  obtain ⟨gt, rq, sp, h⟩ := s.arrive_frame p
  rw [h]

@[simp] theorem State.arrive_st : (s.arrive p).st = s.st := by
  obtain ⟨gt, rq, sp, h⟩ := s.arrive_frame p
  rw [h]

@[simp] theorem State.arrive_vl : (s.arrive p).vl = s.vl := by
  obtain ⟨gt, rq, sp, h⟩ := s.arrive_frame p
  rw [h]

@[simp] theorem State.arrive_isRun : (s.arrive p).isRun = s.isRun := by
  rw [State.isRun, State.arrive_site, State.isRun]

@[simp] theorem State.arrive_isKnown (k : Nat) : (s.arrive p).isKnown k = s.isKnown k := by
  rw [State.isKnown, State.arrive_cfg, State.isKnown]

@[simp] theorem State.arrive_bay (k : Nat) : (s.arrive p).bay k = s.bay k := by
  rw [State.bay, State.arrive_bt, State.bay]

@[simp] theorem State.arrive_session (n : Nat) : (s.arrive p).session n = s.session n := by
  rw [State.session, State.arrive_st, State.session]

@[simp] theorem State.arrive_voucher (n : Nat) : (s.arrive p).voucher n = s.voucher n := by
  rw [State.voucher, State.arrive_vl, State.voucher]

end Arrival

theorem State.isRun_of_run {s : State} (h : s.site = .run) : s.isRun = true :=
  s.isRun_iff.2 h

theorem State.isRun_of_configure {s : State} (h : s.site = .configure) : s.isRun = false := by
  simp [State.isRun, h]

theorem State.isKnown_of_range {s : State} {k : Nat} (h1 : 1 ≤ k) (hn : k ≤ s.cfg.bayCount) : s.isKnown k = true :=
  decide_eq_true ⟨h1, hn⟩

theorem State.isKnown_of_out {s : State} {k : Nat} (h : k = 0 ∨ s.cfg.bayCount < k) : s.isKnown k = false := by
  refine decide_eq_false ?_
  omega

/-- On a ready port N a request of its own is handed to its block, whose answer is sent. -/
theorem takeRequest_network (tag code : Byte) (h : Handler) (hr : s.Ready .network) :
    takeRequest [.network] .network tag code h s =
      (h (s.arrive .network)).1.respond .network tag code (h (s.arrive .network)).2.1 (h (s.arrive .network)).2.2 :=
  takeRequest_taken s _ _ _ _ _ hr.1 hr.2 (List.mem_singleton_self _)

/-- The answer of a request's block, sent on port N. -/
theorem next_takeRequest_network {s t : State} {tag code : Byte} {h : Handler} (hr : s.Ready .network) {st : Status}
    {r : Reply} (answer : h (s.arrive .network) = (t, st, r)) :
    (.next (takeRequest [.network] .network tag code h s) : Host.Outcome State Fault Refusal) =
      .next (t.respond .network tag code st r) := by
  rw [takeRequest_network s tag code h hr, answer]

theorem takeEntries_fst (l : List ReportEntry) : (takeEntries l s).1 = l.foldl State.takeEntry s := by
  induction l generalizing s with
  | nil => rfl
  | cons x l ih => exact ih (s.takeEntry x)

theorem takeEntries_snd_length (l : List ReportEntry) : (takeEntries l s).2.length = l.length := by
  induction l generalizing s with
  | nil => rfl
  | cons x l ih => exact congrArg (· + 1) (ih (s.takeEntry x))

/-- Each entry is answered from the state that it and the entries before it have left. -/
theorem takeEntries_snd_getElem? {l : List ReportEntry} {i : Nat} {x : ReportEntry} (h : l[i]? = some x) :
    (takeEntries l s).2[i]? = some (((l.take (i + 1)).foldl State.takeEntry s).entryReply x.bay) := by
  induction l generalizing s i with
  | nil => exact nomatch h
  | cons y l ih =>
    cases i with
    | zero =>
      cases h
      rfl
    | succ i => exact ih (s.takeEntry y) h

theorem State.entryReply_of_bay {s : State} {k : Nat} {b : BayRec} (h : s.bay k = some b) :
    s.entryReply k = ⟨k, b.state, b.session⟩ := by
  rw [State.entryReply, h]

/-- A payload that gives entries for known bays, in RUN, is taken (R48). -/
theorem handleBayReports_taken {s : State} {payload : List Byte} {l : List ReportEntry} (hf : reportFields payload = some l)
    (run : s.site = .run) (known : ∀ x ∈ l, 1 ≤ x.bay ∧ x.bay ≤ s.cfg.bayCount) :
    handleBayReports payload s = (l.foldl State.takeEntry s, .ok, .reports (takeEntries l s).2) := by
  have all : (l.all fun x => s.isKnown x.bay) = true :=
    List.all_eq_true.2 fun x hx => State.isKnown_of_range (known x hx).1 (known x hx).2
  simp only [handleBayReports, hf, State.isRun_of_run run, all, Bool.not_true, Bool.false_eq_true, if_false,
    takeEntries_fst]

/-- Settles O20: the round trip of the bytes, the checks in their order, and the replies entry by entry. -/
theorem bayReportsChecks : Obligations.BayReportsChecks := by
  refine ⟨⟨fun l h1 h8 fits => ?_, fun n rest bad => ?_⟩, rfl, fun n rest i plug hi hp h => ?_, fun tag payload s hr => ?_⟩
  · have count : (BitVec.ofNat 8 l.length).toNat = l.length := by
      rw [BitVec.toNat_ofNat]
      omega
    have entries := reportEntries_flatMap_bytes (l := l) fun x hx =>
      have ⟨bay, request, measured, connectorMax, reading⟩ := fits x hx
      ⟨bay, request, measured, connectorMax, reading⟩
    rw [← count] at h1 h8 entries
    exact (if_pos ⟨h1, h8⟩).trans entries
  · by_cases hn : 1 ≤ n.toNat ∧ n.toNat ≤ 8
    · exact (if_pos hn).trans (reportEntries_of_length (by omega))
    · exact if_neg hn
  · by_cases hn : 1 ≤ n.toNat ∧ n.toNat ≤ 8
    · exact (if_pos hn).trans (reportEntries_of_plug hi hp h)
    · exact if_neg hn
  · refine ⟨fun hf => ?_, fun l hf => ⟨fun site => ?_, fun site unknown => ?_, fun site known => ?_⟩⟩
    · refine next_takeRequest_network hr ?_
      simp only [handleBayReports, hf]
      rfl
    · refine next_takeRequest_network hr ?_
      simp only [handleBayReports, hf, State.arrive_isRun, State.isRun_of_configure site]
      rfl
    · have out : (l.all fun x => (s.arrive .network).isKnown x.bay) = false := by
        obtain ⟨x, hx, h⟩ := unknown
        rw [List.all_eq_false]
        exact ⟨x, hx, by rw [State.arrive_isKnown, State.isKnown_of_out h]; exact Bool.false_ne_true⟩
      refine next_takeRequest_network hr ?_
      simp only [handleBayReports, hf, State.arrive_isRun, State.isRun_of_run site, out]
      rfl
    · intro after
      refine ⟨(takeEntries l (s.arrive .network)).2, ?_, takeEntries_snd_length _ l, fun i x b hx hb => ?_⟩
      · have all : after l.length = l.foldl State.takeEntry (s.arrive .network) := by
          show (l.take l.length).foldl _ _ = _
          rw [List.take_length]
        rw [all]
        exact next_takeRequest_network hr
          (handleBayReports_taken hf ((s.arrive_site _).trans site) ((s.arrive_cfg _).symm ▸ known))
      · rw [takeEntries_snd_getElem? _ hx]
        exact congrArg some (State.entryReply_of_bay hb)

end Sys2Proof.Machine
end

section
/-! One entry of BAY REPORTS by the state it finds the bay in: the refresh and the lowered grant, an opening, a wait, a reading
and a closing (R49 to R55, R99, R117). -/

namespace Sys2Proof.Machine

variable (s : State)

/-! ### One bay's record after a change -/

theorem BayTable.setBay_setBay {f : BayRec → BayRec} (hf : ∀ a, (f a).number = a.number) (k : Nat) (g : BayRec → BayRec)
    (bt : BayTable) : (bt.setBay k f).setBay k g = bt.setBay k fun b => g (f b) := by
  refine congrArg (fun l => { bt with bays := l }) (List.map_map.trans (List.map_congr_left fun a _ => ?_))
  by_cases ha : a.number = k
  · simp only [Function.comp_apply, ha, if_true, hf]
  · simp only [Function.comp_apply, ha, if_false]

/-- The record found under a number after a change of one bay. -/
theorem BayTable.find?_setBay_any {f : BayRec → BayRec} (hf : ∀ a, (f a).number = a.number) (j k : Nat) (bt : BayTable) :
    ((bt.setBay k f).bays.find? fun b => b.number == j) =
      (bt.bays.find? fun b => b.number == j).map fun b => if j = k then f b else b := by
  have same : ((fun b : BayRec => b.number == j) ∘ fun b => if b.number = k then f b else b) = fun b => b.number == j := by
    funext a
    simp only [Function.comp_apply, apply_ite BayRec.number, hf, ite_self]
  rw [BayTable.setBay, List.find?_map, same]
  cases h : bt.bays.find? fun b => b.number == j with
  | none => rfl
  | some b =>
    have number : b.number = j := by simpa using List.find?_some h
    simp only [Option.map_some, number]

theorem BayTable.find?_setBay {f : BayRec → BayRec} (hf : ∀ a, (f a).number = a.number) (k : Nat) (bt : BayTable) :
    ((bt.setBay k f).bays.find? fun b => b.number == k) = (bt.bays.find? fun b => b.number == k).map f := by
  simp only [BayTable.find?_setBay_any hf, if_true]

theorem BayTable.find?_setBay_ne {f : BayRec → BayRec} (hf : ∀ a, (f a).number = a.number) {j k : Nat} (hj : j ≠ k)
    (bt : BayTable) : ((bt.setBay k f).bays.find? fun b => b.number == j) = bt.bays.find? fun b => b.number == j := by
  simp only [BayTable.find?_setBay_any hf, hj, if_false, Option.map_id']

/-- A bay's record in a state whose table has one bay changed. -/
theorem State.bay_of_setBay {s t : State} {k : Nat} {f : BayRec → BayRec} {b : BayRec}
    (hf : ∀ a, (f a).number = a.number) (ht : t.bt.bays = (s.bt.setBay k f).bays) (hb : s.bay k = some b) :
    t.bay k = some (f b) := by
  rw [State.bay, ht, BayTable.find?_setBay hf]
  exact congrArg (Option.map f) hb

/-! ### The refresh of an entry (R49, R99) -/

theorem State.lowered_frame (k bayMax : Nat) : ∃ gt sp, s.lowered k bayMax = { s with gt := gt, sp := sp } := by
  unfold State.lowered
  split
  · exact ⟨_, _, rfl⟩
  · exact ⟨_, _, rfl⟩

/-- The lowering of a grant does not read the bays (R99). -/
theorem State.lowered_bays (k bayMax : Nat) (bt : BayTable) :
    State.lowered k bayMax { s with bt := bt } = { s.lowered k bayMax with bt := bt } := by
  have read : (State.grant { s with bt := bt } k).g = (s.grant k).g := rfl
  unfold State.lowered
  rw [read]
  split <;> rfl

/-- An entry for a bay in service: the refreshed record, and the grant lowered to the new bay max (R49, R99). -/
theorem State.refreshBay_inService {b : BayRec} (h : s.inService b = true) (x : ReportEntry) : s.refreshBay b x =
    { s.lowered x.bay (min x.connectorMax s.cfg.perBayCap) with
      bt := s.bt.setBay x.bay (BayRec.refresh s.tb.ms x) } := by
  unfold State.refreshBay
  dsimp only
  rw [if_pos h, State.lowerByReport_eq_lowered, ← State.lowered_bays]
  rfl

/-- An entry for a bay out of service: the refreshed record alone (R49). -/
theorem State.refreshBay_outOfService {b : BayRec} (h : s.inService b = false) (x : ReportEntry) : s.refreshBay b x =
    { s with bt := s.bt.setBay x.bay (BayRec.refresh s.tb.ms x) } := by
  unfold State.refreshBay
  dsimp only
  rw [h]
  rfl

theorem State.inService_of_known {b : BayRec} {k : Nat} (hb : s.bay k = some b) (h1 : 1 ≤ k) (hn : k ≤ s.cfg.bayCount)
    (hst : b.state ≠ .outOfService) : s.inService b = true := by
  rw [State.inService, (s.mem_of_bay hb).2, State.isKnown_of_range h1 hn, decide_eq_true hst]
  rfl

theorem State.takeEntry_eq {b : BayRec} {x : ReportEntry} (hb : s.bay x.bay = some b) : s.takeEntry x =
    (s.refreshBay b x).reportAction b x (elapsed s.tb.ms b.lastReport) := by
  rw [State.takeEntry, hb]

/-! ### One entry alone -/

/-- A request of one entry for a known bay: the state after it, and the bay's reply in that state (R48). -/
theorem exec_bayReports_one {s t : State} (hr : s.Ready .network) (tag : Byte) {payload : List Byte} {x : ReportEntry}
    (hf : reportFields payload = some [x]) (run : s.site = .run) (h1 : 1 ≤ x.bay) (hn : x.bay ≤ s.cfg.bayCount)
    (ht : (s.arrive .network).takeEntry x = t) {c : BayRec} (hc : t.bay x.bay = some c) :
    exec (.bayReports .network tag payload) s =
      .next (t.respond .network tag 0x20 .ok (.reports [⟨x.bay, c.state, c.session⟩])) := by
  refine next_takeRequest_network hr ((handleBayReports_taken hf ((s.arrive_site _).trans run) fun y hy => ?_).trans ?_)
  · rw [List.mem_singleton.1 hy, State.arrive_cfg]
    exact ⟨h1, hn⟩
  · subst ht
    show (_, _, Reply.reports [State.entryReply _ _]) = _
    rw [State.entryReply_of_bay hc]
    rfl

/-! ### The state actions -/

section Action

variable {b : BayRec} {x : ReportEntry} (dt : Nat)

theorem State.reportAction_vacant (h : b.state = .vacant) : s.reportAction b x dt =
    if x.plugged then
      if s.hasSlot then s.openSession x.bay x.reading .active none
      else (s.setBayState x.bay .waiting).joinWait x.bay
    else s := by
  rw [State.reportAction, h]

theorem State.reportAction_waiting (h : b.state = .waiting) : s.reportAction b x dt =
    if x.plugged then s else (s.leaveWait x.bay).setBayState x.bay .vacant := by
  rw [State.reportAction, h]

theorem State.reportAction_done (h : b.state = .done) : s.reportAction b x dt =
    if x.plugged then s else s.setBayState x.bay .vacant := by
  rw [State.reportAction, h]

theorem State.reportAction_active (h : b.state = .active) : s.reportAction b x dt = s.reportCharging b x dt := by
  rw [State.reportAction, h]

theorem State.reportAction_fallback (h : b.state = .fallback) : s.reportAction b x dt =
    (s.updBay x.bay (BayRec.leave .active)).reportCharging b x dt := by
  rw [State.reportAction, h]

theorem State.reportAction_outOfService (h : b.state = .outOfService) : s.reportAction b x dt = s := by
  rw [State.reportAction, h]

end Action

/-- An entry that arrives for a known bay in service: its action on the state with the grant lowered and the record
refreshed, of which the grants, the receipts and the ports alone may differ from the state before (R49, R99). -/
theorem State.takeEntry_arrived {b : BayRec} {x : ReportEntry} (hb : s.bay x.bay = some b) (h1 : 1 ≤ x.bay)
    (hn : x.bay ≤ s.cfg.bayCount) (hst : b.state ≠ .outOfService) {low : State}
    (hl : (s.arrive .network).lowered x.bay (min x.connectorMax s.cfg.perBayCap) = low) :
    (s.arrive .network).takeEntry x = State.reportAction b x (elapsed s.tb.ms b.lastReport)
      { low with bt := s.bt.setBay x.bay (BayRec.refresh s.tb.ms x) } ∧
    ∃ gt rq sp, low = { s with gt := gt, rq := rq, sp := sp } := by
  have known := (s.arrive_bay .network _).trans hb
  constructor
  · rw [State.takeEntry_eq _ known, State.refreshBay_inService _
      (State.inService_of_known _ known h1 (by rw [s.arrive_cfg]; exact hn) hst), s.arrive_cfg, s.arrive_tb, s.arrive_bt, hl]
  · obtain ⟨gt, sp, lowered⟩ := (s.arrive .network).lowered_frame x.bay (min x.connectorMax s.cfg.perBayCap)
    obtain ⟨gt', rq, sp', arrived⟩ := s.arrive_frame .network
    exact ⟨gt, rq, sp, by rw [← hl, lowered, arrived]⟩

/-- Settles O21: the two ways of a VACANT bay after the refresh. -/
theorem pluggedReportOpensSession : Obligations.PluggedReportOpensSession := by
  intro tag payload x b s hr a hf run h1 hn hb vacant plugged low refreshed n
  obtain ⟨taken, gt, rq, sp, hl⟩ := s.takeEntry_arrived hb h1 hn (vacant ▸ nofun) (low := low) rfl
  rw [State.reportAction_vacant _ _ vacant, if_pos plugged] at taken
  clear_value low
  subst hl
  have refresh : BayRec.refresh s.tb.ms x = refreshed := funext fun y => by rw [BayRec.refresh, plugged]
  rw [refresh] at taken
  have both := fun g => BayTable.setBay_setBay (f := refreshed) (fun _ => rfl) x.bay g s.bt
  refine ⟨fun free => ?_, fun full => ?_⟩
  · let opened (y : BayRec) : BayRec :=
      { y with state := .active, fallbackStart := none, session := some n, hold := 0, promo := 0 }
    refine exec_bayReports_one hr tag hf run h1 hn (taken.trans ((if_pos (decide_eq_true free)).trans ?_))
      (c := opened (refreshed b)) (State.bay_of_setBay (f := fun y => opened (refreshed y)) (fun _ => rfl) rfl hb)
    let after (bt : BayTable) : State := { s.openSession x.bay x.reading .active none with
      bt := bt, gt := gt, rq := rq, sp := sp }
    exact congrArg after (both opened)
  · let waiting (y : BayRec) : BayRec := { refreshed y with state := .waiting, fallbackStart := none }
    refine exec_bayReports_one hr tag hf run h1 hn (taken.trans ((if_neg ?_).trans ?_)) (c := waiting b)
      (State.bay_of_setBay (f := waiting) (fun _ => rfl) rfl hb)
    · exact fun free => absurd (of_decide_eq_true free) (Nat.not_lt.2 full)
    · exact congrArg (fun bt : BayTable =>
        { s with gt := gt, rq := rq, sp := sp, bt := { bt with slotWait := s.bt.slotWait ++ [x.bay] } })
        (both (BayRec.leave .waiting))

end Sys2Proof.Machine
end

section
/-! Entries for a bay that does not charge (R49 to R51, R53, R55, R99). -/

namespace Sys2Proof.Machine

variable (s : State)

theorem State.lowered_of_le {k bayMax : Nat} (h : (s.grant k).g ≤ bayMax) : s.lowered k bayMax = s :=
  if_neg (Nat.not_lt.2 h)

/-- A grant above the new bay max is lowered to it, or to 0 below the bay min, with an epoch (R94, R99). -/
theorem State.lowered_of_lt {s : State} {k bayMax bayMin : Nat} {now : Word} (h : bayMax < (s.grant k).g)
    (eg : s.gt.eg < Config.maxWord) (hm : s.cfg.bayMin = bayMin) (hn : s.tb.ms = now) : s.lowered k bayMax =
      let v := if bayMax < bayMin then 0 else bayMax
      State.raise .network .grantsChanged (.num (s.gt.eg + 1)) (.num 0) { s with
        gt := { s.gt with
          eg := s.gt.eg + 1
          grants := s.gt.grants.map fun y => if y.bay = k then
            { y with g := v, e := s.gt.eg + 1,
                     mismatch := if v = y.a then none else if y.g = y.a then some now else y.mismatch,
                     overdue := if v = y.a then false else y.overdue } else y } } := by
  subst hm hn
  rw [State.lowered, if_pos h, if_neg eg.ne]

theorem State.takeEntry_outOfService {b : BayRec} {x : ReportEntry} (hb : s.bay x.bay = some b)
    (h : b.state = .outOfService) : (s.arrive .network).takeEntry x =
      { s.arrive .network with bt := s.bt.setBay x.bay (BayRec.refresh s.tb.ms x) } := by
  have out : (s.arrive .network).inService b = false := by
    rw [State.inService, h]
    exact Bool.and_false _
  rw [State.takeEntry_eq _ ((s.arrive_bay .network _).trans hb), State.refreshBay_outOfService _ out,
    State.reportAction_outOfService _ _ h]
  exact congrArg₂ (fun (tb : TimeBase) bt =>
    { s.arrive .network with bt := BayTable.setBay x.bay (BayRec.refresh tb.ms x) bt }) (s.arrive_tb _) (s.arrive_bt _)

/-- Settles O23: the refresh alone, the refresh with a lowered grant, and the bay that empties. -/
theorem unchargedReportsRefresh : Obligations.UnchargedReportsRefresh := by
  refine ⟨?_, ?_⟩
  · intro tag payload x b s hr a hf run h1 hn hb idle bays bayMax v reply
    have quiet (u : State) (dt : Nat) : u.reportAction b x dt = u := by
      rcases idle with ⟨h, plugged⟩ | ⟨h | h, plugged⟩ | h
      · rw [State.reportAction_vacant _ _ h, plugged]; rfl
      · rw [State.reportAction_waiting _ _ h, plugged]; rfl
      · rw [State.reportAction_done _ _ h, plugged]; rfl
      · exact State.reportAction_outOfService _ _ h
    have refreshed (u : State) (taken : a.takeEntry x = { u with bt := { s.bt with bays := bays } }) :
        exec (.bayReports .network tag payload) s =
          .next (State.respond .network tag 0x20 .ok reply { u with bt := { s.bt with bays := bays } }) :=
      exec_bayReports_one hr tag hf run h1 hn taken (c := b.refresh s.tb.ms x)
        (State.bay_of_setBay (f := BayRec.refresh s.tb.ms x) (fun _ => rfl) rfl hb)
    have arrived (h : b.state ≠ .outOfService) :
        a.takeEntry x = { a.lowered x.bay bayMax with bt := { s.bt with bays := bays } } :=
      (s.takeEntry_arrived hb h1 hn h rfl).1.trans (quiet _ _)
    refine ⟨fun h => refreshed a ?_, fun inService above eg => ?_⟩
    · by_cases out : b.state = .outOfService
      · exact s.takeEntry_outOfService hb out
      · rw [arrived out, State.lowered_of_le _ (h.resolve_left out)]
    · have lowered := State.lowered_of_lt above eg (congrArg SiteCfg.bayMin (s.arrive_cfg _))
        (congrArg TimeBase.ms (s.arrive_tb _))
      exact refreshed _ ((arrived inService).trans
        (congrArg (fun low : State => { low with bt := { s.bt with bays := bays } }) lowered))
  · intro tag payload x b s hr a hf run h1 hn hb state unplugged
    obtain ⟨taken, gt, rq, sp, hl⟩ := s.takeEntry_arrived hb h1 hn (by rcases state with h | h <;> rw [h] <;> nofun)
      (low := a.lowered x.bay (min x.connectorMax s.cfg.perBayCap)) rfl
    generalize a.lowered x.bay (min x.connectorMax s.cfg.perBayCap) = low at taken hl ⊢
    subst hl
    let emptied (y : BayRec) : BayRec := BayRec.leave .vacant { y.refresh s.tb.ms x with plugged := false }
    have both : (s.bt.setBay x.bay (BayRec.refresh s.tb.ms x)).setBay x.bay (BayRec.leave .vacant) =
        s.bt.setBay x.bay emptied := by
      rw [BayTable.setBay_setBay (f := BayRec.refresh s.tb.ms x) fun _ => rfl]
      exact congrArg (s.bt.setBay x.bay) (funext fun y => by simp only [emptied, BayRec.refresh, unplugged])
    refine exec_bayReports_one hr tag hf run h1 hn (taken.trans ?_) (c := emptied b)
      (State.bay_of_setBay (f := emptied) (fun _ => rfl) rfl hb)
    rcases state with h | h
    · let after (bt : BayTable) : State := { s with
        bt := { bt with slotWait := s.bt.slotWait.filter fun j => decide (j ≠ x.bay) }, gt := gt, rq := rq, sp := sp }
      rw [State.reportAction_waiting _ _ h, unplugged, h]
      exact congrArg after both
    · let after (bt : BayTable) : State := { s with bt := bt, gt := gt, rq := rq, sp := sp }
      rw [State.reportAction_done _ _ h, unplugged, h]
      exact congrArg after both

end Sys2Proof.Machine
end

section
/-! Entries for a bay that charges (R49, R52, R54), and the record of a bay whose session has closed (R124, R118). -/

namespace Sys2Proof.Machine

variable (s : State)

/-! ### The bay of a closed session -/

/-- An admission leaves a bay that does not wait as it is (R118). -/
theorem State.admitHead_bay {s : State} {k : Nat} (h : k ∉ s.bt.slotWait) : s.admitHead.bay k = s.bay k := by
  cases hw : s.bt.slotWait with
  | nil => rw [s.admitHead_nil hw]
  | cons j rest =>
    obtain ⟨base, st, m, _, e⟩ := s.admitHead_eq hw
    have other : k ≠ j := fun e => h (hw ▸ e ▸ List.mem_cons_self)
    rw [e]
    exact BayTable.find?_setBay_ne (f := fun b =>
      { b with state := st, fallbackStart := m, session := some s.newNumber, hold := 0, promo := 0 })
      (fun _ => rfl) other s.bt

/-- A session that asks for a place leaves a bay that does not wait as it is (R125). -/
theorem State.askPlace_bay {s : State} {k : Nat} (h : k ∉ s.bt.slotWait) (n : Nat) : (s.askPlace n).bay k = s.bay k := by
  cases room : s.hasRoom with
  | false => rw [State.askPlace_full room]; rfl
  | true =>
    rw [State.askPlace_room room, State.receiptSession]
    split
    · rfl
    · exact State.admitHead_bay (s := State.dropSession _ _) h

/-- The bay of a closing, when it does not wait: unbound, and in the state the closing gives it (R124). -/
theorem State.closeSession_bay {s : State} {k : Nat} {b : BayRec} (hb : s.bay k = some b) (h : k ∉ s.bt.slotWait)
    (cause : CloseCause) (st : BayState) : (s.closeSession k cause st).bay k = some (b.closed st) := by
  cases hs : (s.bay k).bind (·.session) with
  | none =>
    rw [State.closeSession_none hs]
    exact State.bay_of_setBay (f := BayRec.closed st) (fun _ => rfl) rfl hb
  | some n =>
    have list : k ∉ (s.unbound k n cause st).bt.slotWait := by
      rw [s.unbound_eq]
      exact h
    rw [State.closeSession_some hs, State.askPlace_bay list, s.unbound_eq]
    exact State.bay_of_setBay (f := BayRec.closed st) (fun _ => rfl) rfl hb

/-- Settles O24: the reading is filed in the refreshed state; UNPLUGGED then closes the session. -/
theorem chargingReportMeters : Obligations.ChargingReportMeters := by
  intro tag payload x b n s hr a hf run h1 hn hb state session t
  let charging (y : BayRec) : BayRec := { y.refresh s.tb.ms x with
    state := if b.state = .fallback then .active else y.state
    fallbackStart := if b.state = .fallback then none else y.fallbackStart }
  have bay : t.bay x.bay = some (charging b) := State.bay_of_setBay (f := charging) (fun _ => rfl) rfl hb
  have active : (charging b).state = .active := by
    rcases state with h | h <;> simp [charging, h]
  have taken : a.takeEntry x = if x.plugged then t else t.closeSession x.bay .unplugged .vacant := by
    obtain ⟨taken, gt, rq, sp, hl⟩ := s.takeEntry_arrived hb h1 hn (by rcases state with h | h <;> rw [h] <;> nofun)
      (low := a.lowered x.bay (min x.connectorMax s.cfg.perBayCap)) rfl
    simp only [t]
    generalize a.lowered x.bay (min x.connectorMax s.cfg.perBayCap) = low at taken hl ⊢
    subst hl
    refine taken.trans ?_
    rcases state with h | h
    · rw [State.reportAction_active _ _ h, State.reportCharging, session, h]
      rfl
    · have both : (s.bt.setBay x.bay (BayRec.refresh s.tb.ms x)).setBay x.bay (BayRec.leave .active) =
          s.bt.setBay x.bay fun y => (y.refresh s.tb.ms x).leave .active :=
        BayTable.setBay_setBay (f := BayRec.refresh s.tb.ms x) (fun _ => rfl) _ _ _
      rw [State.reportAction_fallback _ _ h, State.reportCharging, session, h]
      let metered (bt : BayTable) : State := { s with
        bt := bt, gt := gt, rq := rq, sp := sp
        st := s.st.setSession n (Session.takeReading x.reading (elapsed s.tb.ms b.lastReport) x.connectorMax s.lookup) }
      exact congrArg (fun bt =>
        if x.plugged then metered bt else (metered bt).closeSession x.bay .unplugged .vacant) both
  refine ⟨fun plugged => ?_, fun unplugged list => ?_⟩
  · rw [if_pos plugged] at taken
    rw [exec_bayReports_one hr tag hf run h1 hn taken bay, active]
    exact congrArg (fun n => Host.Outcome.next (State.respond .network tag 0x20 .ok (.reports [⟨x.bay, .active, n⟩]) t)) session
  · rw [if_neg (by rw [unplugged]; exact Bool.false_ne_true)] at taken
    exact exec_bayReports_one hr tag hf run h1 hn taken (State.closeSession_bay bay list .unplugged .vacant)

end Sys2Proof.Machine
end

section
/-! The other requests about a bay: END SESSION (R60), SET BAY SERVICE (R58, R59), READ BAY (R46, R65), and READ VOUCHER (R140). -/

namespace Sys2Proof.Machine

variable (s : State)

/-! ### The fields of the payloads -/

theorem bayField_of_length {payload : List Byte} (h : payload.length ≠ 1) : bayField payload = none := by
  unfold bayField
  split
  · exact absurd rfl h
  · rfl

theorem serviceFields_of_length {payload : List Byte} (h : payload.length ≠ 2) : serviceFields payload = none := by
  unfold serviceFields
  split
  · exact absurd rfl h
  · rfl

theorem serviceFields_other (k : Byte) {c : Byte} (h : 2 ≤ c.toNat) : serviceFields [k, c] = none := by
  have out : c ≠ 0 := by rintro rfl; exact absurd h (by decide)
  have back : c ≠ 1 := by rintro rfl; exact absurd h (by decide)
  exact (if_neg out).trans (if_neg back)

theorem serviceFields_choice (k : Byte) {c : Byte} (h : c.toNat ≤ 1) :
    ∃ choiceIn, serviceFields [k, c] = some (k.toNat, choiceIn) := by
  by_cases out : c = 0
  · exact ⟨false, if_pos out⟩
  · have nonzero : c.toNat ≠ 0 := fun e => out (BitVec.eq_of_toNat_eq e)
    have back : c = 1 := BitVec.eq_of_toNat_eq (Nat.le_antisymm h (Nat.pos_of_ne_zero nonzero))
    exact ⟨true, (if_neg out).trans (if_pos back)⟩

/-! ### END SESSION (R60) -/

section EndSession

variable {s} {payload : List Byte}

theorem handleEndSession_length (h : payload.length ≠ 1) : handleEndSession payload s = (s, .badRequest, .empty) := by
  rw [handleEndSession, bayField_of_length h]
  rfl

theorem handleEndSession_configure (k : Byte) (h : s.site = .configure) :
    handleEndSession [k] s = (s, .badState, .empty) := by
  simp only [handleEndSession, bayField, State.isRun_of_configure h]
  rfl

theorem handleEndSession_unknown {k : Byte} (run : s.site = .run) (h : k.toNat = 0 ∨ s.cfg.bayCount < k.toNat) :
    handleEndSession [k] s = (s, .unknownBay, .empty) := by
  simp only [handleEndSession, bayField, State.isRun_of_run run, State.isKnown_of_out h]
  rfl

theorem handleEndSession_known {k : Byte} {b : BayRec} (run : s.site = .run) (h1 : 1 ≤ k.toNat)
    (hn : k.toNat ≤ s.cfg.bayCount) (hb : s.bay k.toNat = some b) : handleEndSession [k] s =
      if b.state = .active then (s.closeSession k.toNat .endSession .done, .ok, .closed b.session)
      else (s, .badState, .empty) := by
  simp only [handleEndSession, bayField, State.isRun_of_run run, State.isKnown_of_range h1 hn, hb]
  rfl

end EndSession

/-- Settles O26: the checks in their order, then the closing. -/
theorem endSessionCloses : Obligations.EndSessionCloses := by
  intro tag k s hr a refused
  refine ⟨fun payload h => next_takeRequest_network hr (handleEndSession_length h),
    fun configure => next_takeRequest_network hr (handleEndSession_configure k ((s.arrive_site _).trans configure)),
    fun run unknown => next_takeRequest_network hr
      (handleEndSession_unknown ((s.arrive_site _).trans run) ((s.arrive_cfg _).symm ▸ unknown)),
    fun b run h1 hn hb => ?_⟩
  have known := handleEndSession_known (s := a) ((s.arrive_site _).trans run) h1 ((s.arrive_cfg _).symm ▸ hn)
    ((s.arrive_bay _ _).trans hb)
  exact ⟨fun active => next_takeRequest_network hr (known.trans (if_pos active)),
    fun other => next_takeRequest_network hr (known.trans (if_neg other))⟩

/-! ### SET BAY SERVICE (R58, R59) -/

section Service

variable {s} {payload : List Byte}

theorem handleSetBayService_misfit (h : serviceFields payload = none) :
    handleSetBayService payload s = (s, .badRequest, .empty) := by
  rw [handleSetBayService, h]
  rfl

theorem handleSetBayService_unknown {k : Nat} {choiceIn : Bool} (hf : serviceFields payload = some (k, choiceIn))
    (h : k = 0 ∨ s.cfg.bayCount < k) : handleSetBayService payload s = (s, .unknownBay, .empty) := by
  simp only [handleSetBayService, hf, State.isKnown_of_out h]
  rfl

/-- The answer for a known bay, from the bay's record in the state after the change. -/
theorem handleSetBayService_known {k : Nat} {choiceIn : Bool} {b c : BayRec} {t : State}
    (hf : serviceFields payload = some (k, choiceIn)) (h1 : 1 ≤ k) (hn : k ≤ s.cfg.bayCount) (hb : s.bay k = some b)
    (ht : (if choiceIn then s.takeIn b else s.takeOut b) = t) (hc : t.bay k = some c) :
    handleSetBayService payload s = (t, .ok, .service c.state (if choiceIn then none else closedByOut b)) := by
  simp only [handleSetBayService, hf, State.isKnown_of_range h1 hn, hb, ht, State.entryReply_of_bay hc]
  rfl

end Service

/-! What a choice does by the bay's state. -/

section Choice

variable {s} {b : BayRec} {k : Nat} (number : b.number = k)
include number

theorem State.takeOut_idle (h : b.state = .vacant ∨ b.state = .done) :
    s.takeOut b = (s.setBayState k .outOfService).outGrant k := by
  rcases h with h | h <;> rw [State.takeOut, h, ← number]

theorem State.takeOut_waiting (h : b.state = .waiting) :
    s.takeOut b = ((s.leaveWait k).setBayState k .outOfService).outGrant k := by
  rw [State.takeOut, h, ← number]

theorem State.takeOut_charging (h : b.state = .active ∨ b.state = .fallback) :
    s.takeOut b = (s.closeSession k .outOfService .outOfService).outGrant k := by
  rcases h with h | h <;> rw [State.takeOut, h, ← number]

theorem State.takeIn_outOfService (h : b.state = .outOfService) : s.takeIn b = s.setBayState k .vacant := by
  rw [State.takeIn, h, ← number]

end Choice

theorem State.takeIn_inService {b : BayRec} (h : b.state ≠ .outOfService) : s.takeIn b = s := by
  cases hs : b.state with
  | outOfService => exact absurd hs h
  | vacant | waiting | active | done | fallback => rw [State.takeIn, hs]

theorem State.outGrant_bay (j k : Nat) : (s.outGrant k).bay j = s.bay j := by
  obtain ⟨gt, sp, h⟩ := s.outGrant_frame k
  rw [h]
  rfl

theorem State.outGrant_of_zero {k : Nat} (h : (s.grant k).g = 0) : s.outGrant k = s.updGrant k GrantRec.clear :=
  if_pos h

/-- A bay taken out with an issued grant: the cleared record takes the new epoch (R94, R99). -/
theorem State.outGrant_of_pos {k : Nat} (h : (s.grant k).g ≠ 0) (eg : s.gt.eg < Config.maxWord) : s.outGrant k =
    State.raise .network .grantsChanged (.num (s.gt.eg + 1)) (.num 0) { s with gt := { s.gt with
      eg := s.gt.eg + 1
      grants := s.gt.grants.map fun y => if y.bay = k then { y.clear with e := s.gt.eg + 1 } else y } } := by
  have next : nextEpoch s.gt.eg = s.gt.eg + 1 := if_neg eg.ne
  have grants : ((s.gt.grants.map fun y => if y.bay = k then y.clear else y).map fun y =>
      if (y.bay == k) = true then { y with e := s.gt.eg + 1 } else y) =
        s.gt.grants.map fun y => if y.bay = k then { y.clear with e := s.gt.eg + 1 } else y := by
    refine List.map_map.trans (List.map_congr_left fun y _ => ?_)
    by_cases hy : y.bay = k <;> simp [GrantRec.clear, hy]
  rw [State.outGrant, if_neg h, State.takeEpoch, State.updGrant]
  dsimp only
  rw [next, grants]

/-- Settles O25: the refusals, then the change of each bay state. -/
theorem serviceChanges : Obligations.ServiceChanges := by
  refine ⟨fun tag s hr => ?_, ?_⟩
  · refine ⟨fun payload h => next_takeRequest_network hr (handleSetBayService_misfit (serviceFields_of_length h)),
      fun k c h => next_takeRequest_network hr (handleSetBayService_misfit (serviceFields_other k h)),
      fun k c h unknown => ?_⟩
    obtain ⟨choiceIn, hf⟩ := serviceFields_choice k h
    exact next_takeRequest_network hr (handleSetBayService_unknown hf ((s.arrive_cfg _).symm ▸ unknown))
  · intro tag k b s hr a h1 hn hb list answer out moved
    have known : a.bay k.toNat = some b := (s.arrive_bay _ _).trans hb
    have number : b.number = k.toNat := (s.mem_of_bay hb).2
    have range : k.toNat ≤ a.cfg.bayCount := (s.arrive_cfg _).symm ▸ hn
    have tables : a.bt = s.bt := s.arrive_bt _
    have left (st : BayState) {t : State} (ht : t.bt.bays = moved st) : t.bay k.toNat = some (b.leave st) :=
      State.bay_of_setBay (f := BayRec.leave st) (fun _ => rfl) ht hb
    have settled (st : BayState) : a.setBayState k.toNat st = { a with bt := { s.bt with bays := moved st } } :=
      congrArg (fun bt : BayTable => State.setBayState k.toNat st { a with bt := bt }) tables
    have takenOut {t : State} {c : BayRec} (ht : a.takeOut b = t) (hc : t.bay k.toNat = some c) :
        exec (.setBayService .network tag [k, 0]) s = answer c.state (closedByOut b) t :=
      next_takeRequest_network hr (handleSetBayService_known (choiceIn := false) rfl h1 range known ht hc)
    have takenIn {t : State} {c : BayRec} (ht : a.takeIn b = t) (hc : t.bay k.toNat = some c) :
        exec (.setBayService .network tag [k, 1]) s = answer c.state none t :=
      next_takeRequest_network hr (handleSetBayService_known (choiceIn := true) rfl h1 range known ht hc)
    refine ⟨fun eg => ?_, fun oos => ⟨?_, ?_⟩, fun inService => ?_⟩
    · have zeroed {t : State} (ht : t.gt = a.gt) : t.outGrant k.toNat = out t := by
        have read : t.grant k.toNat = a.grant k.toNat := by rw [State.grant, ht, State.grant]
        by_cases hg : (a.grant k.toNat).g = 0
        · refine (t.outGrant_of_zero (read ▸ hg)).trans (Eq.trans ?_ (if_pos hg).symm)
          rw [← ht]
          rfl
        · refine (t.outGrant_of_pos (read ▸ hg) (ht ▸ eg)).trans (Eq.trans ?_ (if_neg hg).symm)
          rw [← ht]
          rfl
      have grantless {t : State} {c : BayRec} (ht : t.gt = a.gt) (ho : a.takeOut b = t.outGrant k.toNat)
          (hc : t.bay k.toNat = some c) :
          exec (.setBayService .network tag [k, 0]) s = answer c.state (closedByOut b) (out t) :=
        zeroed ht ▸ takenOut ho ((t.outGrant_bay _ _).trans hc)
      refine ⟨fun idle => ?_, fun waiting => ?_, fun charging => ?_⟩
      · have none : closedByOut b = none := by rcases idle with h | h <;> rw [closedByOut, h]
        rw [grantless (by rfl) ((State.takeOut_idle number idle).trans (congrArg (State.outGrant _) (settled .outOfService)))
          (left .outOfService rfl), none]
        rfl
      · have unlisted : (a.leaveWait k.toNat).setBayState k.toNat .outOfService = { a with bt := {
            bays := moved .outOfService
            slotWait := s.bt.slotWait.filter fun j => decide (j ≠ k.toNat) } } :=
          congrArg (fun bt : BayTable => State.setBayState k.toNat .outOfService (State.leaveWait k.toNat { a with bt := bt }))
            tables
        have none : closedByOut b = none := by rw [closedByOut, waiting]
        rw [grantless (by rfl) ((State.takeOut_waiting number waiting).trans (congrArg (State.outGrant _) unlisted))
          (left .outOfService rfl), none]
        rfl
      · have session : closedByOut b = b.session := by rcases charging with h | h <;> rw [closedByOut, h]
        have grants : (a.closeSession k.toNat .outOfService .outOfService).gt = a.gt := by
          obtain ⟨bt, st, vl, rq, h⟩ := a.closeSession_frame k.toNat .outOfService .outOfService
          rw [h]
        rw [grantless grants (State.takeOut_charging number charging)
          (State.closeSession_bay known (tables ▸ list charging) _ _), session]
        rfl
    · rw [takenOut (t := a) (by rw [State.takeOut, oos]) known, closedByOut, oos]
    · exact takenIn ((State.takeIn_outOfService number oos).trans (settled .vacant)) (left .vacant rfl)
    · exact takenIn (a.takeIn_inService inService) known

end Sys2Proof.Machine
end

section
/-! READ BAY (R46, R65) and READ VOUCHER (R140). -/

namespace Sys2Proof.Machine

variable {s : State}

section ReadBay

variable {payload : List Byte}

theorem handleReadBay_length (h : payload.length ≠ 1) : handleReadBay payload s = (s, .badRequest, .empty) := by
  rw [handleReadBay, bayField_of_length h]
  rfl

theorem handleReadBay_unknown {k : Byte} (h : k.toNat = 0 ∨ s.cfg.bayCount < k.toNat) :
    handleReadBay [k] s = (s, .unknownBay, .empty) := by
  simp only [handleReadBay, bayField, State.isKnown_of_out h]
  rfl

theorem handleReadBay_known {k : Byte} {b : BayRec} (h1 : 1 ≤ k.toNat) (hn : k.toNat ≤ s.cfg.bayCount)
    (hb : s.bay k.toNat = some b) : handleReadBay [k] s = (s, .ok, .bay (s.bayReply b)) := by
  simp only [handleReadBay, bayField, State.isKnown_of_range h1 hn, hb]
  rfl

end ReadBay

/-- The answer of a request's block, sent on port T. -/
theorem next_takeRequest_till {t : State} {tag code : Byte} {h : Handler} (hr : s.Ready .till) {st : Status} {r : Reply}
    (answer : h (s.arrive .till) = (t, st, r)) :
    (.next (takeRequest [.till] .till tag code h s) : Host.Outcome State Fault Refusal) =
      .next (t.respond .till tag code st r) := by
  rw [takeRequest_taken s _ _ _ _ _ hr.1 hr.2 (List.mem_singleton_self _), answer]

/-- The place of the record that a search finds. -/
theorem placeOf_of_find? {α : Type} {f : α → Bool} {l : List α} {v : α} (h : l.find? f = some v) :
    ∃ i, placeOf f l = some (i + 1) ∧ l[i]? = some v := by
  obtain ⟨hv, i, hi, at_i, before⟩ := List.find?_eq_some_iff_getElem.1 h
  have index : l.findIdx? f = some i :=
    List.findIdx?_eq_some_iff_getElem.2 ⟨hi, at_i ▸ hv, fun j hj => by simpa using before j hj⟩
  exact ⟨i, by rw [placeOf, index]; rfl, by rw [List.getElem?_eq_getElem hi, at_i]⟩

theorem State.voucherReply_place {n : Nat} {v : Voucher} (hv : s.voucher n = some v) :
    1 ≤ (s.voucherReply v).place ∧ s.vl.vouchers[(s.voucherReply v).place - 1]? = some v := by
  have number : v.number = n := by simpa using List.find?_some hv
  obtain ⟨i, place, at_i⟩ := placeOf_of_find? (number ▸ hv : (s.vl.vouchers.find? fun y => y.number == v.number) = some v)
  rw [State.voucherReply, place]
  exact ⟨Nat.succ_pos i, at_i⟩

/-- Settles O41: each read's checks, then the fields of its answer. -/
theorem bayAndVoucherReadsReturn : Obligations.BayAndVoucherReadsReturn := by
  refine ⟨fun tag k s hr => ⟨fun b h1 hn hb => ?_, fun unknown => ?_, fun payload h => ?_⟩,
    fun tag m s hr => ⟨?_, fun none => ?_, fun v hv => ?_⟩⟩
  · refine (next_takeRequest_network hr
      (handleReadBay_known h1 ((s.arrive_cfg _).symm ▸ hn) ((s.arrive_bay _ _).trans hb))).trans ?_
    simp only [State.bayReply, State.bayMax, elapsed, State.arrive_cfg, State.arrive_tb, State.arrive_bt]
  · exact next_takeRequest_network hr (handleReadBay_unknown ((s.arrive_cfg _).symm ▸ unknown))
  · exact next_takeRequest_network hr (handleReadBay_length h)
  · exact next_takeRequest_till hr rfl
  · refine next_takeRequest_till hr ?_
    simp only [handleReadVoucher, State.arrive_voucher, none]
    rfl
  · have found := (s.arrive_voucher .till _).trans hv
    obtain ⟨first, place⟩ := State.voucherReply_place found
    refine ⟨(s.arrive .till).voucherReply v, next_takeRequest_till hr ?_, rfl, first, (s.arrive_vl .till) ▸ place, ?_, ?_, ?_⟩
    · simp only [handleReadVoucher, found]
    · rw [State.voucherReply, s.arrive_vl]
    · intro unclaimed
      simp only [State.voucherReply, unclaimed, if_true, State.arrive_tb, and_self]
    · intro claimed
      refine ⟨if_neg claimed, fun n x hn hx => (if_neg claimed).trans ?_⟩
      rw [hn, Option.bind_some, State.arrive_session, hx]
      rfl

end Sys2Proof.Machine
end

section
/-! The sharing of one class (R81, R82): its targets, what it leaves, and the turns of the remainder. -/

namespace Sys2Proof.Machine

/-! ### Sums and targets -/

theorem total_eq_sum (l : List Nat) : total l = l.sum := rfl

theorem mem_of_targetOf {l : List (Nat × Nat)} {k v : Nat} (h : targetOf l k = some v) : (k, v) ∈ l := by
  obtain ⟨x, hx, rfl⟩ := Option.map_eq_some_iff.1 h
  have key : x.1 = k := by simpa using List.find?_some hx
  exact key ▸ List.mem_of_find?_eq_some hx

/-- The target of a bay in a list that has one target for each bay. -/
theorem targetOf_of_mem {l : List (Nat × Nat)} {k v : Nat} (hl : (l.map (·.1)).Nodup) (h : (k, v) ∈ l) :
    targetOf l k = some v := by
  rw [targetOf, find?_keyed hl h]
  rfl

/-- Targets that do not name a bay do not matter for it. -/
theorem targetOf_append {l : List (Nat × Nat)} {k : Nat} (h : k ∉ l.map (·.1)) (m : List (Nat × Nat)) :
    targetOf (l ++ m) k = targetOf m k := by
  have none : (l.find? fun x => x.1 == k) = none := by
    simpa using fun a b hx ha => h (List.mem_map.2 ⟨(a, b), hx, ha⟩)
  rw [targetOf, List.find?_append, none, Option.none_or]
  rfl

/-! ### Turns of the remainder (R82) -/

section Turns

variable {bayCount pointer r : Nat} {bays : List Nat}

/-- The bays in the order of their turns from the pointer, written out. -/
theorem unitBays_eq (first : 1 ≤ pointer) (last : pointer ≤ bayCount) (one : ∀ k ∈ bays, 1 ≤ k) :
    unitBays bayCount bays pointer r = ((List.range' pointer (bayCount + 1 - pointer) ++ List.range' 1 (pointer - 1)).filter
      fun k => decide (k ∈ bays)).take r := by
  have cut : List.range (bayCount + 1) = List.range' 0 pointer ++ List.range' pointer (bayCount + 1 - pointer) := by
    have := List.range'_append (s := 0) (m := pointer) (n := bayCount + 1 - pointer) (step := 1)
    rw [List.range_eq_range', ← Nat.add_sub_cancel' (show pointer ≤ bayCount + 1 by omega), ← this]
    simp
  have start : List.range' 0 pointer = 0 :: List.range' 1 (pointer - 1) := by
    obtain ⟨n, rfl⟩ := Nat.exists_eq_add_of_le' first
    rfl
  have zero : 0 ∉ bays := fun h => absurd (one 0 h) (by decide)
  have above : (List.range (bayCount + 1)).filter (fun k => decide (pointer ≤ k)) =
      List.range' pointer (bayCount + 1 - pointer) := by
    rw [cut, List.filter_append, List.filter_eq_nil_iff.2 fun k hk => ?_, List.filter_eq_self.2 fun k hk => ?_,
      List.nil_append]
    · simpa using (List.mem_range'_1.1 hk).1
    · simpa using (List.mem_range'_1.1 hk).2
  have below : (List.range (bayCount + 1)).filter (fun k => decide (k < pointer)) = 0 :: List.range' 1 (pointer - 1) := by
    rw [cut, List.filter_append, List.filter_eq_self.2 fun k hk => ?_, List.filter_eq_nil_iff.2 fun k hk => ?_,
      List.append_nil, start]
    · simpa using (List.mem_range'_1.1 hk).1
    · simpa using (List.mem_range'_1.1 hk).2
  unfold unitBays
  dsimp only
  rw [List.filter_comm, above, List.filter_comm, below, List.filter_append]
  simp [zero]

/-- Every bay has one turn (R82): the bays that get a unit are the first ones of an order of them all. -/
theorem unitBays_order (distinct : bays.Nodup) (use : ∀ k ∈ bays, k ≤ bayCount) (pointer : Nat) :
    ∃ order : List Nat, order.Perm bays ∧ ∀ r, unitBays bayCount bays pointer r = order.take r := by
  refine ⟨_, ?_, fun r => rfl⟩
  have sorted : ((List.range (bayCount + 1)).filter fun k => bays.contains k).Perm bays :=
    (List.perm_ext_iff_of_nodup (List.nodup_range.filter _) distinct).2 fun k => by
      have := use k
      simp only [List.mem_filter, List.mem_range, List.contains_iff_mem]
      exact ⟨fun h => h.2, fun h => ⟨Nat.lt_succ_of_le (this h), h⟩⟩
  refine .trans ?_ sorted
  simpa only [← decide_not, not_le] using
    List.filter_append_perm (fun k => decide (pointer ≤ k)) ((List.range (bayCount + 1)).filter fun k => bays.contains k)

/-- As many candidates get a unit as there are units, up to one for each. -/
theorem length_filter_unitBays {l : List Candidate} (distinct : (l.map (·.bay)).Nodup) (use : ∀ y ∈ l, y.bay ≤ bayCount)
    (few : r ≤ l.length) (pointer : Nat) :
    (l.filter fun y => decide (y.bay ∈ unitBays bayCount (l.map (·.bay)) pointer r)).length = r := by
  obtain ⟨order, perm, take⟩ := unitBays_order distinct (by simpa using use) pointer
  have length : order.length = l.length := by simpa using perm.length_eq
  have turns : ((l.map (·.bay)).filter fun k => decide (k ∈ order.take r)).Perm (order.take r) :=
    (List.perm_ext_iff_of_nodup (distinct.filter _) ((perm.nodup_iff.2 distinct).take)).2 fun k => by
      simp only [List.mem_filter, decide_eq_true_eq, and_iff_right_iff_imp]
      exact fun h => perm.mem_iff.1 (List.mem_of_mem_take h)
  have := turns.length_eq
  rw [List.filter_map, List.length_map, List.length_take, length, min_eq_left few] at this
  rw [take]
  exact this

end Turns

/-! ### The cases of the sharing (R81, R82) -/

/-- The candidates whose demand a share covers. -/
def covered (share : Nat) (l : List Candidate) : List Candidate :=
  l.filter fun y => decide (y.d ≤ share)

/-- The candidates whose demand exceeds a share. -/
def beyond (share : Nat) (l : List Candidate) : List Candidate :=
  l.filter fun y => decide (share < y.d)

/-- The sharing of a budget among the candidates of a class, to its end. -/
def shareOut (bayMin bayCount b pointer : Nat) (l : List Candidate) : Shared :=
  shareClass bayMin bayCount l.length b pointer l

variable {bayMin bayCount b pointer share : Nat} {l : List Candidate}

theorem mem_covered {y : Candidate} : y ∈ covered share l ↔ y ∈ l ∧ y.d ≤ share := by
  simp [covered]

theorem mem_beyond {y : Candidate} : y ∈ beyond share l ↔ y ∈ l ∧ share < y.d := by
  simp [beyond]

theorem lt_of_covered_nil (h : covered share l = []) {y : Candidate} (hy : y ∈ l) : share < y.d := by
  simpa using List.filter_eq_nil_iff.1 h y hy

theorem covered_append_beyond (share : Nat) (l : List Candidate) : (covered share l ++ beyond share l).Perm l := by
  simpa only [covered, beyond, ← decide_not, not_le] using List.filter_append_perm (fun y => decide (y.d ≤ share)) l

theorem length_covered_add_beyond (share : Nat) (l : List Candidate) :
    (covered share l).length + (beyond share l).length = l.length := by
  simpa using (covered_append_beyond share l).length_eq

theorem length_beyond_lt (h : covered share l ≠ []) : (beyond share l).length < l.length := by
  have := length_covered_add_beyond share l
  have := List.length_pos_iff.2 h
  omega

/-- One round of the loop of R81. -/
theorem shareClass_succ (fuel : Nat) (hl : l ≠ []) (hs : b / l.length = share) :
    shareClass bayMin bayCount (fuel + 1) b pointer l =
      if covered share l ≠ [] then
        let u := shareClass bayMin bayCount fuel (b - total ((covered share l).map (·.d))) pointer (beyond share l)
        ⟨(covered share l).map (fun y => (y.bay, y.d)) ++ u.targets, u.left, u.pointer⟩
      else if share < bayMin then
        let u := shareClass bayMin bayCount fuel b pointer l.dropLast
        ⟨((l.getLast hl).bay, 0) :: u.targets, u.left, u.pointer⟩
      else
        let units := unitBays bayCount (l.map (·.bay)) pointer (b % l.length)
        ⟨l.map fun y => (y.bay, if y.bay ∈ units then share + 1 else share), 0, movePointer bayCount pointer units⟩ := by
  subst hs
  have rest : (l.filter fun y => !decide (y.d ≤ b / l.length)) = beyond (b / l.length) l :=
    List.filter_congr fun y _ => by simp only [← decide_not, not_le]
  have fit : (l.filter fun y => decide (y.d ≤ b / l.length)) = covered (b / l.length) l := rfl
  have nonempty : l.isEmpty = false := by simpa using hl
  have remainder : b - l.length * (b / l.length) = b % l.length := by
    have := Nat.div_add_mod b l.length
    omega
  simp only [shareClass, nonempty, Bool.false_eq_true, if_false, fit, rest, remainder, List.contains_iff_mem]
  by_cases h : covered (b / l.length) l = []
  · simp [h, List.getLast?_eq_some_getLast hl]
  · simp [h]

/-- Fuel beyond the number of candidates does not matter. -/
theorem shareClass_fuel {m n : Nat} (hm : l.length ≤ m) (hn : l.length ≤ n) :
    shareClass bayMin bayCount m b pointer l = shareClass bayMin bayCount n b pointer l := by
  induction m generalizing n b l with
  | zero =>
    rw [List.length_eq_zero_iff.1 (Nat.le_zero.1 hm)]
    cases n <;> rfl
  | succ m ih =>
    rcases eq_or_ne l [] with rfl | hl
    · cases n <;> rfl
    · have pos := List.length_pos_iff.2 hl
      obtain ⟨n, rfl⟩ := Nat.exists_eq_add_of_le' (pos.trans_le hn)
      have last : l.dropLast.length < l.length := by simpa using pos
      rw [shareClass_succ m hl rfl, shareClass_succ n hl rfl]
      split
      · next h =>
        have := length_beyond_lt h
        rw [ih (n := n) (by omega) (by omega)]
      · rw [ih (n := n) (by omega) (by omega)]

theorem shareOut_succ : shareOut bayMin bayCount b pointer l =
    shareClass bayMin bayCount (l.length - 1 + 1) b pointer l :=
  shareClass_fuel le_rfl (by omega)

theorem shareOut_nil : shareOut bayMin bayCount b pointer [] = ⟨[], b, pointer⟩ := rfl

/-- The candidates that the share covers get their demand, and the others share the rest (R81). -/
theorem shareOut_covered (hs : b / l.length = share) (h : covered share l ≠ []) {u : Shared}
    (hu : shareOut bayMin bayCount (b - total ((covered share l).map (·.d))) pointer (beyond share l) = u) :
    shareOut bayMin bayCount b pointer l =
      ⟨(covered share l).map (fun y => (y.bay, y.d)) ++ u.targets, u.left, u.pointer⟩ := by
  subst hu
  have less := length_beyond_lt h
  have hl : l ≠ [] := List.length_pos_iff.1 (by omega)
  rw [shareOut_succ, shareClass_succ _ hl hs, if_pos h, shareClass_fuel (n := (beyond share l).length) (by omega) le_rfl]
  rfl

/-- With a share below the bay min the latest admitted gets 0, and the others share all (R81). -/
theorem shareOut_dropped {y : Candidate} (hs : b / (l ++ [y]).length = share) (h : covered share (l ++ [y]) = [])
    (small : share < bayMin) {u : Shared} (hu : shareOut bayMin bayCount b pointer l = u) :
    shareOut bayMin bayCount b pointer (l ++ [y]) = ⟨(y.bay, 0) :: u.targets, u.left, u.pointer⟩ := by
  subst hu
  have hl : l ++ [y] ≠ [] := by simp
  rw [shareOut_succ, shareClass_succ _ hl hs, if_neg (not_not.2 h), if_pos small]
  simp [shareOut]

/-- Else each gets the share, and one more by turns until the remainder is gone (R82). -/
theorem shareOut_even (hl : l ≠ []) (hs : b / l.length = share) (h : covered share l = []) (enough : bayMin ≤ share)
    {units : List Nat} (hu : unitBays bayCount (l.map (·.bay)) pointer (b % l.length) = units) :
    shareOut bayMin bayCount b pointer l =
      ⟨l.map fun y => (y.bay, if y.bay ∈ units then share + 1 else share), 0, movePointer bayCount pointer units⟩ := by
  subst hu
  rw [shareOut_succ, shareClass_succ _ hl hs, if_neg (not_not.2 h), if_neg (not_lt.2 enough)]

/-- What holds without candidates, and is kept when the covered leave, when the latest admitted leaves, and at an even share,
holds of every sharing. -/
theorem shareOut_induction {P : Nat → List Candidate → Shared → Prop} (nil : ∀ b, P b [] ⟨[], b, pointer⟩)
    (covers : ∀ b l share u, b / l.length = share → covered share l ≠ [] →
      P (b - total ((covered share l).map (·.d))) (beyond share l) u →
      P b l ⟨(covered share l).map (fun y => (y.bay, y.d)) ++ u.targets, u.left, u.pointer⟩)
    (drops : ∀ b l y u, b / (l ++ [y]).length < bayMin → P b l u →
      P b (l ++ [y]) ⟨(y.bay, 0) :: u.targets, u.left, u.pointer⟩)
    (evens : ∀ b l share, l ≠ [] → b / l.length = share → (∀ y ∈ l, share < y.d) → bayMin ≤ share →
      ∀ units, unitBays bayCount (l.map (·.bay)) pointer (b % l.length) = units →
      P b l ⟨l.map fun y => (y.bay, if y.bay ∈ units then share + 1 else share), 0, movePointer bayCount pointer units⟩)
    (b : Nat) (l : List Candidate) : P b l (shareOut bayMin bayCount b pointer l) := by
  induction h : l.length using Nat.strong_induction_on generalizing b l with
  | _ n ih =>
    subst h
    rcases List.eq_nil_or_concat' l with rfl | ⟨m, y, hl⟩
    · exact nil b
    · by_cases hc : covered (b / l.length) l = []
      · by_cases small : b / l.length < bayMin
        · subst hl
          rw [shareOut_dropped rfl hc small rfl]
          exact drops b m y _ small (ih m.length (by simp) b m rfl)
        · have ne : l ≠ [] := by simp [hl]
          rw [shareOut_even ne rfl hc (not_lt.1 small) rfl]
          exact evens b l _ ne rfl (fun y hy => lt_of_covered_nil hc hy) (not_lt.1 small) _ rfl
      · rw [shareOut_covered rfl hc rfl]
        exact covers b l _ _ rfl hc (ih _ (length_beyond_lt hc) _ _ rfl)

end Sys2Proof.Machine
end

section
/-! What a class's sharing keeps: one target for each candidate, within its demand, and the budget (R80 to R82). -/

namespace Sys2Proof.Machine

variable {bayMin bayCount b pointer : Nat} {l : List Candidate}

/-- Every candidate has one target. -/
theorem shareOut_bays : ((shareOut bayMin bayCount b pointer l).targets.map (·.1)).Perm (l.map (·.bay)) := by
  refine shareOut_induction (P := fun _ l r => (r.targets.map (·.1)).Perm (l.map (·.bay))) (fun _ => .refl _) ?_ ?_ ?_ b l
  · intro b l share u hs hc ih
    have all := (covered_append_beyond share l).map (·.bay)
    rw [List.map_append] at all ⊢
    rw [List.map_map]
    exact (ih.append_left _).trans all
  · intro b l y u small ih
    rw [List.map_append, List.map_cons]
    exact (ih.cons _).trans (List.perm_append_singleton _ _).symm
  · intro b l share hl hs low enough units hu
    rw [List.map_map]
    exact .refl _

/-- A target is a candidate's, and it is 0 or lies from the bay min to the demand. -/
def TargetWithin (bayMin : Nat) (l : List Candidate) (x : Nat × Nat) : Prop :=
  ∃ y ∈ l, x.1 = y.bay ∧ (x.2 = 0 ∨ bayMin ≤ x.2 ∧ x.2 ≤ y.d)

theorem TargetWithin.mono {m : List Candidate} {x : Nat × Nat} (h : TargetWithin bayMin m x) (hm : m ⊆ l) :
    TargetWithin bayMin l x := by
  obtain ⟨y, hy, hx⟩ := h
  exact ⟨y, hm hy, hx⟩

theorem shareOut_within (least : ∀ y ∈ l, bayMin ≤ y.d) :
    ∀ x ∈ (shareOut bayMin bayCount b pointer l).targets, TargetWithin bayMin l x := by
  refine shareOut_induction (P := fun _ l r => (∀ y ∈ l, bayMin ≤ y.d) → ∀ x ∈ r.targets, TargetWithin bayMin l x)
    (fun _ _ x hx => absurd hx List.not_mem_nil) ?_ ?_ ?_ b l least
  · intro b l share u hs hc ih least x hx
    rcases List.mem_append.1 hx with hx | hx
    · obtain ⟨y, hy, rfl⟩ := List.mem_map.1 hx
      have hy := (mem_covered.1 hy).1
      exact ⟨y, hy, rfl, .inr ⟨least y hy, le_rfl⟩⟩
    · exact (ih (fun y hy => least y (mem_beyond.1 hy).1) x hx).mono fun y hy => (mem_beyond.1 hy).1
  · intro b l y u small ih least x hx
    rcases List.mem_cons.1 hx with rfl | hx
    · exact ⟨y, by simp, rfl, .inl rfl⟩
    · exact (ih (fun y hy => least y (List.mem_append_left _ hy)) x hx).mono (List.subset_append_left _ _)
  · intro b l share hl hs low enough units hu least x hx
    obtain ⟨y, hy, rfl⟩ := List.mem_map.1 hx
    have := low y hy
    refine ⟨y, hy, rfl, .inr ?_⟩
    dsimp only
    split <;> omega

/-- The covered demands fit the budget. -/
theorem total_covered_le {share : Nat} (hs : b / l.length = share) : total ((covered share l).map (·.d)) ≤ b := by
  have few := length_covered_add_beyond share l
  calc total ((covered share l).map (·.d))
      ≤ ((covered share l).map (·.d)).length • share := List.sum_le_card_nsmul _ _ fun d hd => by
        obtain ⟨y, hy, rfl⟩ := List.mem_map.1 hd
        exact (mem_covered.1 hy).2
    _ ≤ l.length * share := by
        rw [List.length_map, smul_eq_mul]
        exact Nat.mul_le_mul_right _ (by omega)
    _ ≤ b := by
        rw [← hs]
        exact Nat.mul_div_le _ _

/-- The covered demands are a bay min each at least. -/
theorem le_total_covered {share : Nat} (least : ∀ y ∈ l, bayMin ≤ y.d) :
    (covered share l).length * bayMin ≤ total ((covered share l).map (·.d)) := by
  have := List.card_nsmul_le_sum ((covered share l).map (·.d)) bayMin fun d hd => by
    obtain ⟨y, hy, rfl⟩ := List.mem_map.1 hd
    exact least y (mem_covered.1 hy).1
  rwa [List.length_map, smul_eq_mul] at this

/-- The targets and what is left make up the budget (R81, R82). -/
theorem shareOut_total (distinct : (l.map (·.bay)).Nodup) (use : ∀ y ∈ l, y.bay ≤ bayCount) :
    total ((shareOut bayMin bayCount b pointer l).targets.map (·.2)) + (shareOut bayMin bayCount b pointer l).left = b := by
  refine shareOut_induction (P := fun b l r => (l.map (·.bay)).Nodup → (∀ y ∈ l, y.bay ≤ bayCount) →
    total (r.targets.map (·.2)) + r.left = b) (fun b _ _ => Nat.zero_add b) ?_ ?_ ?_ b l distinct use
  · intro b l share u hs hc ih distinct use
    have rest := ih (distinct.sublist (List.filter_sublist.map _)) fun y hy => use y (mem_beyond.1 hy).1
    have fits := total_covered_le hs
    simp only [total_eq_sum, List.map_append, List.map_map, List.sum_append, Function.comp_def] at rest fits ⊢
    omega
  · intro b l y u small ih distinct use
    have rest := ih (distinct.sublist ((List.sublist_append_left _ _).map _)) fun y hy => use y (List.mem_append_left _ hy)
    simpa [total_eq_sum] using rest
  · intro b l share hl hs low enough units hu distinct use
    have few : b % l.length < l.length := Nat.mod_lt _ (List.length_pos_iff.2 hl)
    have counted := length_filter_unitBays distinct use few.le pointer
    rw [hu] at counted
    have each : ∀ y : Candidate, (if y.bay ∈ units then share + 1 else share) = share + if y.bay ∈ units then 1 else 0 :=
      fun y => by split <;> rfl
    have ones : (l.map fun y => if y.bay ∈ units then 1 else 0).sum = b % l.length := by
      rw [← counted, List.sum_map_ite]
      simp
    have := Nat.div_add_mod b l.length
    rw [hs] at this
    simp [total_eq_sum, Function.comp_def, each, List.sum_map_add, ones, this]

/-- The same of some of the candidates. -/
theorem shareOut_total_of_sublist {m : List Candidate} (sub : m.Sublist l) (distinct : (l.map (·.bay)).Nodup)
    (use : ∀ y ∈ l, y.bay ≤ bayCount) :
    total ((shareOut bayMin bayCount b pointer m).targets.map (·.2)) + (shareOut bayMin bayCount b pointer m).left = b :=
  shareOut_total (distinct.sublist (sub.map _)) fun y hy => use y (sub.subset hy)

/-- A budget short of a bay min for each candidate and one more leaves less than a bay min; so a sharing that leaves a bay min
or more has dropped nobody, and every candidate has its whole demand (R81). -/
theorem shareOut_left (least : ∀ y ∈ l, bayMin ≤ y.d) :
    (b < (l.length + 1) * bayMin → (shareOut bayMin bayCount b pointer l).left < bayMin) ∧
    (bayMin ≤ (shareOut bayMin bayCount b pointer l).left → 1 ≤ bayMin →
      ∀ y ∈ l, (y.bay, y.d) ∈ (shareOut bayMin bayCount b pointer l).targets) := by
  refine shareOut_induction (P := fun b l r => (∀ y ∈ l, bayMin ≤ y.d) →
    (b < (l.length + 1) * bayMin → r.left < bayMin) ∧ (bayMin ≤ r.left → 1 ≤ bayMin → ∀ y ∈ l, (y.bay, y.d) ∈ r.targets)) ?_ ?_ ?_ ?_ b l least
  · intro b _
    exact ⟨fun short => by simpa using short, fun _ _ y hy => absurd hy List.not_mem_nil⟩
  · intro b l share u hs hc ih least
    obtain ⟨little, whole⟩ := ih fun y hy => least y (mem_beyond.1 hy).1
    refine ⟨fun short => little ?_, fun left one y hy => ?_⟩
    · have given := le_total_covered (share := share) least
      have fits := total_covered_le hs
      rw [← length_covered_add_beyond share l] at short
      have split : ((covered share l).length + (beyond share l).length + 1) * bayMin =
        (covered share l).length * bayMin + ((beyond share l).length + 1) * bayMin := by ring
      omega
    · rcases le_or_gt y.d share with fit | more
      · exact List.mem_append_left _ (List.mem_map.2 ⟨y, mem_covered.2 ⟨hy, fit⟩, rfl⟩)
      · exact List.mem_append_right _ (whole left one y (mem_beyond.2 ⟨hy, more⟩))
  · intro b l y u small ih least
    rw [List.length_append, List.length_singleton, Nat.div_lt_iff_lt_mul (Nat.succ_pos _), mul_comm] at small
    have little := (ih fun y hy => least y (List.mem_append_left _ hy)).1 small
    exact ⟨fun _ => little, fun left => absurd little (not_lt.2 left)⟩
  · intro b l share hl hs low enough units hu least
    exact ⟨fun short => Nat.pos_of_ne_zero fun h => by simp [h] at short,
      fun left one => absurd (one.trans left) (Nat.not_succ_le_zero 0)⟩

end Sys2Proof.Machine
end

section
/-! The sharing of the free budget between the classes (R80), and the targets it hands to each bay (R81, R82). -/

namespace Sys2Proof.Machine

variable {bayMin bayCount cfree pointer : Nat} {l : List Candidate}

/-- The SHOPPER candidates of a round (R80). -/
def shopperClass (l : List Candidate) : List Candidate :=
  l.filter fun y => y.shopper

/-- The STANDARD candidates of a round (R80). -/
def standardClass (l : List Candidate) : List Candidate :=
  l.filter fun y => !y.shopper

theorem mem_shopperClass {y : Candidate} : y ∈ shopperClass l ↔ y ∈ l ∧ y.shopper = true := by
  simp [shopperClass]

theorem mem_standardClass {y : Candidate} : y ∈ standardClass l ↔ y ∈ l ∧ y.shopper = false := by
  simp [standardClass]

theorem shoppers_append_standards (l : List Candidate) : (shopperClass l ++ standardClass l).Perm l :=
  List.filter_append_perm Candidate.shopper l

/-- The SHOPPER class shares first and the STANDARD class what it leaves (R80). -/
theorem shareBudget_eq {a b : Shared} (ha : shareOut bayMin bayCount cfree pointer (shopperClass l) = a)
    (hb : shareOut bayMin bayCount a.left a.pointer (standardClass l) = b) :
    shareBudget bayMin bayCount cfree pointer l = ⟨a.targets ++ b.targets, b.left, b.pointer⟩ := by
  subst ha hb
  rfl

theorem shareBudget_shoppers (h : ∀ y ∈ l, y.shopper = true) :
    shareBudget bayMin bayCount cfree pointer l = shareOut bayMin bayCount cfree pointer l := by
  have all : shopperClass l = l := List.filter_eq_self.2 h
  have none : standardClass l = [] := List.filter_eq_nil_iff.2 fun y hy => by simp [h y hy]
  rw [shareBudget_eq (by rw [all]) (by rw [none, shareOut_nil]), List.append_nil]

theorem shareBudget_standards (h : ∀ y ∈ l, y.shopper = false) :
    shareBudget bayMin bayCount cfree pointer l = shareOut bayMin bayCount cfree pointer l := by
  have all : standardClass l = l := List.filter_eq_self.2 fun y hy => by simp [h y hy]
  have none : shopperClass l = [] := List.filter_eq_nil_iff.2 fun y hy => by simp [h y hy]
  rw [shareBudget_eq (by rw [none, shareOut_nil]) (by rw [all]), List.nil_append]

/-- Candidates of one class share as a class (R80). -/
theorem shareBudget_oneClass (h : ∀ y ∈ l, ∀ w ∈ l, y.shopper = w.shopper) :
    shareBudget bayMin bayCount cfree pointer l = shareOut bayMin bayCount cfree pointer l := by
  rcases l with _ | ⟨y, l⟩
  · exact shareBudget_shoppers (by simp)
  · cases hy : y.shopper
    · exact shareBudget_standards fun w hw => (h w hw y List.mem_cons_self).trans hy
    · exact shareBudget_shoppers fun w hw => (h w hw y List.mem_cons_self).trans hy

/-- The same of the two classes' own sharings (R80). -/
theorem shareBudget_classes {a b : Shared} (ha : shareBudget bayMin bayCount cfree pointer (shopperClass l) = a)
    (hb : shareBudget bayMin bayCount a.left a.pointer (standardClass l) = b) :
    shareBudget bayMin bayCount cfree pointer l = ⟨a.targets ++ b.targets, b.left, b.pointer⟩ :=
  shareBudget_eq ((shareBudget_shoppers fun _ hy => (mem_shopperClass.1 hy).2).symm.trans ha)
    ((shareBudget_standards fun _ hy => (mem_standardClass.1 hy).2).symm.trans hb)

/-- Every candidate has one target (R80). -/
theorem shareBudget_bays : ((shareBudget bayMin bayCount cfree pointer l).targets.map (·.1)).Perm (l.map (·.bay)) := by
  have all := (shoppers_append_standards l).map (·.bay)
  rw [shareBudget_eq rfl rfl, List.map_append]
  rw [List.map_append] at all
  exact (shareOut_bays.append shareOut_bays).trans all

theorem shareBudget_within (least : ∀ y ∈ l, bayMin ≤ y.d) :
    ∀ x ∈ (shareBudget bayMin bayCount cfree pointer l).targets, TargetWithin bayMin l x := by
  intro x hx
  rw [shareBudget_eq rfl rfl] at hx
  rcases List.mem_append.1 hx with hx | hx
  · exact (shareOut_within (fun y hy => least y (List.mem_of_mem_filter hy)) x hx).mono (List.filter_subset_self _)
  · exact (shareOut_within (fun y hy => least y (List.mem_of_mem_filter hy)) x hx).mono (List.filter_subset_self _)

/-- The targets and what is left make up the free budget (R80). -/
theorem shareBudget_total (distinct : (l.map (·.bay)).Nodup) (use : ∀ y ∈ l, y.bay ≤ bayCount) :
    total ((shareBudget bayMin bayCount cfree pointer l).targets.map (·.2)) +
      (shareBudget bayMin bayCount cfree pointer l).left = cfree := by
  generalize ha : shareOut bayMin bayCount cfree pointer (shopperClass l) = a
  generalize hb : shareOut bayMin bayCount a.left a.pointer (standardClass l) = b
  have shoppers : total (a.targets.map (·.2)) + a.left = cfree :=
    ha ▸ shareOut_total_of_sublist List.filter_sublist distinct use
  have standards : total (b.targets.map (·.2)) + b.left = a.left :=
    hb ▸ shareOut_total_of_sublist List.filter_sublist distinct use
  rw [shareBudget_eq ha hb]
  simp only [total_eq_sum, List.map_append, List.sum_append] at shoppers standards ⊢
  omega

section Targets

variable (distinct : (l.map (·.bay)).Nodup)

include distinct

theorem targetOf_shareOut {y : Candidate} {v : Nat} (h : (y.bay, v) ∈ (shareOut bayMin bayCount cfree pointer l).targets) :
    targetOf (shareOut bayMin bayCount cfree pointer l).targets y.bay = some v :=
  targetOf_of_mem (shareOut_bays.nodup_iff.2 distinct) h

theorem targetOf_shareBudget {y : Candidate} {v : Nat}
    (h : (y.bay, v) ∈ (shareBudget bayMin bayCount cfree pointer l).targets) :
    targetOf (shareBudget bayMin bayCount cfree pointer l).targets y.bay = some v :=
  targetOf_of_mem (shareBudget_bays.nodup_iff.2 distinct) h

theorem candidate_unique {y w : Candidate} (hy : y ∈ l) (hw : w ∈ l) (h : y.bay = w.bay) : y = w :=
  List.inj_on_of_nodup_map distinct hy hw h

/-- A candidate's target is 0 or lies from the bay min to its demand. -/
theorem targetOf_within {targets : List (Nat × Nat)} (h : ∀ x ∈ targets, TargetWithin bayMin l x) {y : Candidate}
    (hy : y ∈ l) {v : Nat} (hv : targetOf targets y.bay = some v) : v = 0 ∨ bayMin ≤ v ∧ v ≤ y.d := by
  obtain ⟨w, hw, bay, range⟩ := h _ (mem_of_targetOf hv)
  rwa [candidate_unique distinct hy hw bay]

/-- A STANDARD candidate gets power only when every SHOPPER candidate has its whole demand (R80). -/
theorem shoppers_first (one : 1 ≤ bayMin) (least : ∀ y ∈ l, bayMin ≤ y.d) (use : ∀ y ∈ l, y.bay ≤ bayCount) {y w : Candidate} (hy : y ∈ l) (hw : w ∈ l) {v : Nat} (standard : y.shopper = false)
    (hv : targetOf (shareBudget bayMin bayCount cfree pointer l).targets y.bay = some v) (power : 0 < v)
    (shopper : w.shopper = true) : targetOf (shareBudget bayMin bayCount cfree pointer l).targets w.bay = some w.d := by
  generalize ha : shareOut bayMin bayCount cfree pointer (shopperClass l) = a
  have least' : ∀ y ∈ shopperClass l, bayMin ≤ y.d := fun y hy => least y (List.mem_of_mem_filter hy)
  have enough : bayMin ≤ v := by
    have := targetOf_within distinct (shareBudget_within least) hy hv
    omega
  have given : (y.bay, v) ∈ (shareOut bayMin bayCount a.left a.pointer (standardClass l)).targets := by
    have := mem_of_targetOf hv
    rw [shareBudget_eq ha rfl] at this
    refine (List.mem_append.1 this).resolve_left fun h => ?_
    obtain ⟨z, hz, bay, -⟩ := shareOut_within least' _ (ha ▸ h)
    obtain ⟨hz, hs⟩ := mem_shopperClass.1 hz
    rw [candidate_unique distinct hy hz bay, hs] at standard
    exact nomatch standard
  have left : bayMin ≤ a.left := by
    have sum : total ((shareOut bayMin bayCount a.left a.pointer (standardClass l)).targets.map (·.2)) + _ = a.left :=
      shareOut_total_of_sublist List.filter_sublist distinct use
    have part : v ≤ total ((shareOut bayMin bayCount a.left a.pointer (standardClass l)).targets.map (·.2)) :=
      List.le_sum_of_mem (List.mem_map.2 ⟨_, given, rfl⟩)
    omega
  refine targetOf_shareBudget distinct ?_
  rw [shareBudget_eq ha rfl]
  subst ha
  exact List.mem_append_left _ ((shareOut_left least').2 left one w (mem_shopperClass.2 ⟨hw, shopper⟩))

end Targets

/-! ### The cases of one class's sharing, by bay (R81, R82) -/

section OneClass

variable (distinct : (l.map (·.bay)).Nodup)
include distinct

theorem targetOf_covered {share : Nat} (hs : cfree / l.length = share) (hc : covered share l ≠ []) {u : Shared}
    (hu : shareOut bayMin bayCount (cfree - total ((covered share l).map (·.d))) pointer (beyond share l) = u) :
    (∀ y ∈ covered share l, targetOf (shareOut bayMin bayCount cfree pointer l).targets y.bay = some y.d) ∧
    ∀ y ∈ beyond share l, targetOf (shareOut bayMin bayCount cfree pointer l).targets y.bay = targetOf u.targets y.bay := by
  have shared := shareOut_covered hs hc hu
  refine ⟨fun y hy => targetOf_shareOut distinct ?_, fun y hy => ?_⟩
  · rw [shared]
    exact List.mem_append_left _ (List.mem_map.2 ⟨y, hy, rfl⟩)
  · rw [shared]
    refine targetOf_append (fun h => ?_) _
    rw [List.map_map] at h
    obtain ⟨w, hw, bay⟩ := List.mem_map.1 h
    obtain ⟨hy, above⟩ := mem_beyond.1 hy
    obtain ⟨hw, below⟩ := mem_covered.1 hw
    rw [candidate_unique distinct hw hy bay] at below
    omega

theorem targetOf_even (hl : l ≠ []) {share : Nat} (hs : cfree / l.length = share) (hc : covered share l = [])
    (enough : bayMin ≤ share) {units : List Nat}
    (hu : unitBays bayCount (l.map (·.bay)) pointer (cfree % l.length) = units) {y : Candidate} (hy : y ∈ l) :
    targetOf (shareOut bayMin bayCount cfree pointer l).targets y.bay =
      some (if y.bay ∈ units then share + 1 else share) := by
  refine targetOf_shareOut distinct ?_
  rw [shareOut_even hl hs hc enough hu]
  exact List.mem_map.2 ⟨y, hy, rfl⟩

end OneClass

theorem targetOf_dropped {y : Candidate} (distinct : ((l ++ [y]).map (·.bay)).Nodup)
    (hc : covered (cfree / (l ++ [y]).length) (l ++ [y]) = []) (small : cfree / (l ++ [y]).length < bayMin) :
    targetOf (shareOut bayMin bayCount cfree pointer (l ++ [y])).targets y.bay = some 0 ∧
    ∀ x ∈ l, targetOf (shareOut bayMin bayCount cfree pointer (l ++ [y])).targets x.bay =
      targetOf (shareOut bayMin bayCount cfree pointer l).targets x.bay := by
  have shared := shareOut_dropped (bayCount := bayCount) (pointer := pointer) rfl hc small rfl
  refine ⟨targetOf_shareOut distinct ?_, fun x hx => ?_⟩
  · rw [shared]
    exact List.mem_cons_self
  · rw [shared]
    refine targetOf_append (l := [(y.bay, 0)]) (fun h => ?_) _
    rw [List.map_append] at distinct
    exact List.disjoint_of_nodup_append distinct (List.mem_map_of_mem hx) (by simpa using h)

end Sys2Proof.Machine
end

section
/-! The bays a round shares with: the bound bays, the candidates and the stale bays that stay frozen (R72, R79, R83). -/

namespace Sys2Proof.Machine

variable {s : State}

/-! ### Sums over distinct records -/

/-- Distinct records of a list sum to no more than all of it. -/
theorem total_map_le_of_subset {α : Type} {l m : List α} (distinct : l.Nodup) (sub : l ⊆ m) (f : α → Nat) :
    total (l.map f) ≤ total (m.map f) := by
  obtain ⟨l', perm, sublist⟩ := distinct.subperm sub
  rw [total_eq_sum, total_eq_sum, ← (perm.map f).sum_eq]
  exact (sublist.map f).sum_le_sum fun _ _ => Nat.zero_le _

/-- What distinct records add where a test admits them is within the sum of any list that holds the admitted. -/
theorem total_ite_le_of_subset {α : Type} {l m : List α} (distinct : l.Nodup) (p : α → Prop) [DecidablePred p]
    (sub : ∀ a ∈ l, p a → a ∈ m) (f : α → Nat) :
    total (l.map fun a => if p a then f a else 0) ≤ total (m.map f) := by
  have admitted : total (l.map fun a => if p a then f a else 0) = total ((l.filter fun a => decide (p a)).map f) := by
    simp [total_eq_sum, List.sum_map_ite]
  rw [admitted]
  refine total_map_le_of_subset (distinct.filter _) (fun a ha => ?_) f
  obtain ⟨mem, admits⟩ := List.mem_filter.1 ha
  exact sub a mem (of_decide_eq_true admits)

/-- Distinct bays take no more than all targets make up. -/
theorem total_targetOf_le {ks : List Nat} (distinct : ks.Nodup) (l : List (Nat × Nat)) :
    total (ks.map fun k => (targetOf l k).getD 0) ≤ total (l.map (·.2)) := by
  induction l with
  | nil => simp [targetOf, total_eq_sum]
  | cons x l ih =>
    have split : ∀ k ∈ ks, (targetOf (x :: l) k).getD 0 ≤ (if k = x.1 then x.2 else 0) + (targetOf l k).getD 0 := by
      intro k _
      by_cases h : k = x.1
      · simp [targetOf, h]
      · simp [targetOf, h, Ne.symm h]
    have once : (ks.map fun k => if k = x.1 then x.2 else 0).sum ≤ x.2 :=
      total_ite_le_of_subset (m := [x.1]) distinct (· = x.1) (by simp) fun _ => x.2
    refine (List.sum_le_sum split).trans ?_
    simp only [total_eq_sum, List.sum_map_add, List.map_cons, List.sum_cons] at ih ⊢
    omega

/-- A search finds the one record of a list that it admits. -/
theorem find?_of_unique {α : Type} {l : List α} {f : α → Bool} {a : α} (ha : a ∈ l) (hf : f a = true)
    (unique : ∀ b ∈ l, f b = true → b = a) : l.find? f = some a := by
  cases h : l.find? f with
  | none => exact absurd hf (List.find?_eq_none.1 h a ha)
  | some b => rw [unique b (List.mem_of_find?_eq_some h) (List.find?_some h)]

/-! ### Bound bays (R115) -/

theorem State.mem_inServiceBays {b : BayRec} : b ∈ s.inServiceBays ↔
    b ∈ s.bt.bays ∧ (1 ≤ b.number ∧ b.number ≤ s.cfg.bayCount) ∧ b.state ≠ .outOfService := by
  simp [State.inServiceBays, State.inService, State.isKnown]

theorem State.of_mem_boundBays {y : BayRec × Session} (h : y ∈ s.boundBays) : y.1 ∈ s.inServiceBays ∧
    y.2 ∈ s.st.sessions ∧ y.2.state = .opened ∧ y.1.number = y.2.bay ∧ y.1.session = some y.2.number := by
  obtain ⟨x, hx, hy⟩ := List.mem_filterMap.1 h
  obtain ⟨b, hb, rfl⟩ := Option.map_eq_some_iff.1 hy
  obtain ⟨mem, opened⟩ := List.mem_filter.1 hx
  obtain ⟨number, session⟩ : b.number = x.bay ∧ b.session = some x.number := by simpa using List.find?_some hb
  exact ⟨List.mem_of_find?_eq_some hb, mem, by simpa using opened, number, session⟩

section Linked

variable (linked : s.Linked)
include linked

/-- The bound bays are the known bays of the OPEN sessions. -/
theorem State.boundBays_eq : s.boundBays = s.openSessions.filterMap fun z =>
    ((s.bay z.bay).filter fun b => decide (1 ≤ b.number ∧ b.number ≤ s.cfg.bayCount)).map (·, z) := by
  refine List.filterMap_congr fun z hz => congrArg _ ?_
  obtain ⟨mem, opened⟩ := List.mem_filter.1 hz
  obtain ⟨b, hb, number, session⟩ := linked.bindingsOk.bound z mem (by simpa using opened)
  have found : s.bay z.bay = some b := number ▸ find?_keyed linked.joined.bays hb
  have only : ∀ a ∈ s.bt.bays, a.number = z.bay → a = b := fun a ha hn =>
    linked.joined.bay_unique ha hb (hn.trans number.symm)
  have service : b.state ≠ .outOfService := by
    rcases (linked.joined.naming b hb).2 (by rw [session]; rfl) with h | h <;> simp [h]
  rw [found]
  by_cases known : 1 ≤ b.number ∧ b.number ≤ s.cfg.bayCount
  · rw [Option.filter_some, decide_eq_true known]
    refine find?_of_unique (State.mem_inServiceBays.2 ⟨hb, known, service⟩) (by simp [number, session]) fun a ha hn => ?_
    exact only a (State.mem_inServiceBays.1 ha).1 (by simpa using (Bool.and_eq_true_iff.1 hn).1)
  · rw [Option.filter_some, decide_eq_false known]
    refine List.find?_eq_none.2 fun a ha hn => known ?_
    obtain ⟨ha, range, -⟩ := State.mem_inServiceBays.1 ha
    rwa [only a ha (by simpa using (Bool.and_eq_true_iff.1 hn).1)] at range

/-- Two OPEN sessions do not name one bay. -/
theorem State.openSessions_bays : (s.openSessions.map (·.bay)).Nodup := by
  refine List.Nodup.map_on (fun x hx y hy bay => ?_) ((List.Nodup.of_map _ linked.joined.distinct).filter _)
  obtain ⟨hx, ox⟩ := List.mem_filter.1 hx
  obtain ⟨hy, oy⟩ := List.mem_filter.1 hy
  obtain ⟨a, ha, an, as⟩ := linked.bindingsOk.bound x hx (by simpa using ox)
  obtain ⟨b, hb, bn, bs⟩ := linked.bindingsOk.bound y hy (by simpa using oy)
  rw [linked.joined.bay_unique ha hb (by rw [an, bn, bay]), bs] at as
  exact linked.joined.session_unique hx hy (Option.some.inj as).symm

/-- Every bound bay stands once in the admission order. -/
theorem State.boundBays_distinct : (s.boundBays.map fun y => y.1.number).Nodup := by
  have bay : ∀ {z : Session} {w : BayRec × Session},
      (s.inServiceBays.find? fun b => b.number == z.bay && b.session == some z.number).map (·, z) = some w →
      w.1.number = z.bay := fun h => by
    obtain ⟨b, hb, rfl⟩ := Option.map_eq_some_iff.1 h
    have found := List.find?_some hb
    rw [Bool.and_eq_true] at found
    simpa using found.1
  have bays := List.pairwise_map.1 (State.openSessions_bays linked)
  refine List.pairwise_map.2 (bays.filterMap _ fun x x' ne y hy y' hy' => ?_)
  rwa [bay hy, bay hy']

end Linked

/-! ### Candidates (R72) -/

/-- The candidates of a round are bound bays, in service and in time with their reports (R72, R80). -/
theorem State.of_mem_candidates {y : Candidate} (h : y ∈ s.candidates) :
    ∃ b ∈ s.inServiceBays, ∃ z ∈ s.st.sessions, b.number = y.bay ∧ b.state = .active ∧ b.stale = false ∧
      b.session = some z.number ∧ z.state = .opened ∧ z.bay = b.number ∧
      y.d = min b.request (min b.connectorMax s.cfg.perBayCap) ∧ s.cfg.bayMin ≤ y.d ∧
      (y.shopper = true ↔ 0 < z.creditLeft ∨ 0 < b.promo) := by
  obtain ⟨w, hw, rfl⟩ := List.mem_map.1 h
  obtain ⟨bound, charges⟩ := List.mem_filter.1 hw
  obtain ⟨service, mem, opened, number, session⟩ := State.of_mem_boundBays bound
  rw [BayRec.isFresh_eq] at charges
  obtain ⟨⟨active, intime⟩, enough⟩ : (w.1.state = .active ∧ w.1.stale = false) ∧ s.cfg.bayMin ≤ s.demand w.1 := by
    simpa using charges
  exact ⟨w.1, service, w.2, mem, rfl, active, intime, session, opened, number.symm, rfl, enough, decide_eq_true_iff⟩

theorem State.candidates_bays (linked : s.Linked) : (s.candidates.map (·.bay)).Nodup := by
  rw [State.candidates, List.map_map]
  exact (State.boundBays_distinct linked).sublist (List.filter_sublist.map _)

/-- The bay that an OPEN session charges at, in time or stale as asked (R72, R79). -/
def State.chargingBay (s : State) (stale : Bool) (z : Session) : Option BayRec :=
  (s.bay z.bay).filter fun b => decide (1 ≤ b.number ∧ b.number ≤ s.cfg.bayCount ∧ b.state = .active ∧ b.stale = stale)

/-- The bound bays that charge, by the OPEN sessions (R72, R79). -/
theorem State.boundBays_charging (linked : s.Linked) (stale : Bool) :
    (s.boundBays.filter fun y => decide (y.1.state = .active ∧ y.1.stale = stale)) =
      s.openSessions.filterMap fun z => (s.chargingBay stale z).map (·, z) := by
  rw [State.boundBays_eq linked, List.filter_filterMap]
  refine List.filterMap_congr fun z _ => ?_
  rw [Option.filter_map, Option.filter_filter, State.chargingBay]
  congr 2
  funext b
  simp [Bool.and_assoc]

/-- The candidates by the OPEN sessions, in admission order (R72). -/
theorem State.candidates_eq (linked : s.Linked) : s.candidates = s.openSessions.filterMap fun z =>
    ((s.chargingBay false z).filter fun b => decide (s.cfg.bayMin ≤ s.demand b)).map fun b =>
      ⟨b.number, s.demand b, decide (0 < z.creditLeft ∨ 0 < b.promo)⟩ := by
  simp only [State.candidates, BayRec.isFresh_eq, Bool.and_comm _ (decide (_ ≤ _)), ← List.filter_filter]
  rw [State.boundBays_charging linked, List.filter_filterMap, List.map_filterMap]
  refine List.filterMap_congr fun z _ => ?_
  rw [Option.filter_map, Option.map_map]
  rfl

/-! ### Frozen bays (R79) -/

/-- The stale ACTIVE bays in admission order (R79). -/
def State.staleOrder (s : State) : List Nat :=
  (s.boundBays.filter fun y => y.1.isStale).map fun y => y.1.number

/-- A bay's number with its issued grant. -/
def State.granted (s : State) (k : Nat) : Nat × Nat :=
  (k, (s.grant k).g)

theorem State.staleBays_eq : s.staleBays = (s.staleOrder.map s.granted).reverse := by
  rw [State.staleOrder, List.map_map]
  rfl

/-- The stale bays by the OPEN sessions, in admission order (R79). -/
theorem State.staleOrder_eq (linked : s.Linked) :
    s.staleOrder = s.openSessions.filterMap fun z => (s.chargingBay true z).map (·.number) := by
  simp only [State.staleOrder, BayRec.isStale_eq]
  rw [State.boundBays_charging linked, List.map_filterMap]
  refine List.filterMap_congr fun z _ => ?_
  rw [Option.map_map]
  rfl

/-- The bays left after the first releases that the budget asks for. -/
theorem frozen_eq_drop (cb : Nat) (l : List (Nat × Nat)) : ∃ i ≤ l.length, frozen cb l = l.drop i ∧
    staleSum (l.drop i) ≤ cb ∧ ∀ j < i, cb < staleSum (l.drop j) := by
  induction l with
  | nil => exact ⟨0, le_rfl, rfl, Nat.zero_le cb, fun j hj => absurd hj (Nat.not_lt_zero j)⟩
  | cons x l ih =>
    by_cases fits : staleSum (x :: l) ≤ cb
    · exact ⟨0, Nat.zero_le _, if_pos fits, fits, fun j hj => absurd hj (Nat.not_lt_zero j)⟩
    · obtain ⟨i, hi, left, sum, before⟩ := ih
      refine ⟨i + 1, Nat.succ_le_succ hi, (if_neg fits).trans left, sum, fun j hj => ?_⟩
      cases j with
      | zero => exact not_le.1 fits
      | succ j => exact before j (Nat.lt_of_succ_lt_succ hj)

/-- The frozen bays are as many of the earliest admitted stale bays as have grants that the budget holds (R79). -/
theorem State.frozen_eq_take (cb : Nat) : ∃ n ≤ s.staleOrder.length,
    frozen cb s.staleBays = ((s.staleOrder.take n).map s.granted).reverse ∧
    total ((s.staleOrder.take n).map fun k => (s.grant k).g) ≤ cb ∧
    ∀ m, n < m → m ≤ s.staleOrder.length → cb < total ((s.staleOrder.take m).map fun k => (s.grant k).g) := by
  obtain ⟨i, hi, left, sum, before⟩ := frozen_eq_drop cb s.staleBays
  have drop : ∀ j, s.staleBays.drop j = ((s.staleOrder.take (s.staleOrder.length - j)).map s.granted).reverse := fun j => by
    rw [State.staleBays_eq, List.drop_reverse, List.length_map, List.map_take]
  have sums : ∀ j, staleSum (s.staleBays.drop j) =
      total ((s.staleOrder.take (s.staleOrder.length - j)).map fun k => (s.grant k).g) := fun j => by
    rw [drop, staleSum, List.map_reverse, total_eq_sum, List.sum_reverse, List.map_map]
    rfl
  rw [drop] at left
  rw [sums] at sum
  refine ⟨_, Nat.sub_le _ i, left, sum, fun m hm hl => ?_⟩
  have := before (s.staleOrder.length - m) (by omega)
  rwa [sums, Nat.sub_sub_self hl] at this

/-- The target of a bay: the sharing's, or the issued grant of a frozen bay (R83). -/
theorem State.targetFor_eq (shared : List (Nat × Nat)) (bays : List Nat) (b : BayRec) :
    s.targetFor shared (bays.map s.granted).reverse b =
      (targetOf shared b.number).getD (if b.number ∈ bays then (s.grant b.number).g else 0) := by
  have any : ((bays.map s.granted).reverse.any fun x => x.1 == b.number) = decide (b.number ∈ bays) := by
    rw [List.any_reverse, List.any_map, Bool.eq_iff_iff]
    simp [State.granted]
  rw [State.targetFor, any]
  cases targetOf shared b.number with
  | none => simp
  | some t => rfl

end Sys2Proof.Machine
end

section
/-! The targets of a round fit its budget (R79, R83), and what R80 to R83 say of the sharing. -/

namespace Sys2Proof.Machine

variable {s : State}

/-! ### The targets of a round (R79, R83) -/

theorem State.figures_candidates (present : s.isPresent .network = true) : s.figures.candidates = s.candidates :=
  if_pos present

theorem State.figures_shared (present : s.isPresent .network = true) : s.figures.shared =
    shareBudget s.cfg.bayMin s.cfg.bayCount s.figures.cfree s.al.rotation s.candidates := by
  show shareBudget _ _ _ _ (if s.isPresent .network = true then s.candidates else []) = _
  rw [if_pos present]
  rfl

theorem State.figures_targets (present : s.isPresent .network = true) : s.figures.targets =
    s.inServiceBays.map fun b =>
      (b.number, s.targetFor s.figures.shared.targets (frozen s.figures.cb s.staleBays) b) :=
  if_pos present

theorem State.figures_lapsed (lapsed : s.isPresent .network = false) :
    s.figures.candidates = [] ∧ s.figures.targets = [] ∧ s.figures.shared.pointer = s.al.rotation := by
  have none : s.figures.candidates = [] := if_neg (by simp [lapsed])
  refine ⟨none, if_neg (by simp [lapsed]), ?_⟩
  show (shareBudget _ _ _ _ s.figures.candidates).pointer = _
  rw [none]
  rfl

theorem State.rfix_present (present : s.isPresent .network = true) : s.rfix = total (s.inServiceBays.map s.rfixTerm) :=
  if_pos present

section Linked

variable (linked : s.Linked)
include linked

theorem State.inServiceBays_distinct : (s.inServiceBays.map (·.number)).Nodup :=
  linked.joined.bays.sublist (List.filter_sublist.map _)

theorem State.staleOrder_distinct : s.staleOrder.Nodup :=
  (State.boundBays_distinct linked).sublist (List.filter_sublist.map _)

/-- The stale bays' issued grants are within the fixed reservation (R73, R79). -/
theorem State.granted_stale_le (present : s.isPresent .network = true) :
    total (s.staleOrder.map fun k => (s.grant k).g) ≤ s.rfix := by
  have bays : ((s.boundBays.filter fun y => y.1.isStale).map (·.1)).Nodup := by
    refine List.Nodup.of_map (·.number) ?_
    rw [List.map_map]
    exact State.staleOrder_distinct linked
  have service : (s.boundBays.filter fun y => y.1.isStale).map (·.1) ⊆ s.inServiceBays := fun b hb => by
    obtain ⟨y, hy, rfl⟩ := List.mem_map.1 hb
    exact (State.of_mem_boundBays (List.mem_of_mem_filter hy)).1
  calc total (s.staleOrder.map fun k => (s.grant k).g)
      = total (((s.boundBays.filter fun y => y.1.isStale).map (·.1)).map s.rfixTerm) := by
        rw [State.staleOrder, List.map_map, List.map_map]
        refine congrArg _ (List.map_congr_left fun y hy => ?_)
        exact (if_pos (List.mem_filter.1 hy).2).symm
    _ ≤ s.rfix := by
        rw [State.rfix_present present]
        exact total_map_le_of_subset bays service _

/-- The sharing of a round hands out no more than the free budget (R80). -/
theorem State.shared_total_le (present : s.isPresent .network = true) :
    total (s.figures.shared.targets.map (·.2)) ≤ s.figures.cfree := by
  rw [State.figures_shared present]
  refine Nat.le.intro (shareBudget_total (State.candidates_bays linked) fun y hy => ?_)
  obtain ⟨b, hb, z, -, number, -⟩ := State.of_mem_candidates hy
  obtain ⟨-, ⟨-, last⟩, -⟩ := State.mem_inServiceBays.1 hb
  exact number ▸ last

/-- The targets of a round sum to no more than its budget (R79, R83). -/
theorem State.figures_targets_le : total (s.figures.targets.map (·.2)) ≤ s.figures.cb := by
  cases present : s.isPresent .network with
  | false =>
    obtain ⟨-, none, -⟩ := State.figures_lapsed present
    rw [none]
    exact Nat.zero_le _
  | true =>
    obtain ⟨n, -, left, fits, -⟩ := s.frozen_eq_take s.figures.cb
    have free : s.figures.cfree = s.figures.cb - s.rfix := rfl
    have shared := State.shared_total_le linked present
    have bays := State.inServiceBays_distinct linked
    have earliest : total ((s.staleOrder.take n).map fun k => (s.grant k).g) ≤ s.rfix :=
      (((List.take_sublist n _).map _).sum_le_sum fun _ _ => Nat.zero_le _).trans (State.granted_stale_le linked present)
    have each : ∀ k ∈ s.inServiceBays.map (·.number),
        (targetOf s.figures.shared.targets k).getD (if k ∈ s.staleOrder.take n then (s.grant k).g else 0) ≤
          (targetOf s.figures.shared.targets k).getD 0 + if k ∈ s.staleOrder.take n then (s.grant k).g else 0 := by
      intro k _
      cases targetOf s.figures.shared.targets k with
      | none => exact Nat.le_add_left _ _
      | some t => exact Nat.le_add_right _ _
    have candidates := total_targetOf_le bays s.figures.shared.targets
    have frozen := total_ite_le_of_subset bays (· ∈ s.staleOrder.take n) (fun _ _ mem => mem) fun k => (s.grant k).g
    calc total (s.figures.targets.map (·.2))
        = total ((s.inServiceBays.map (·.number)).map fun k => (targetOf s.figures.shared.targets k).getD
            (if k ∈ s.staleOrder.take n then (s.grant k).g else 0)) := by
          rw [State.figures_targets present, left, List.map_map, List.map_map]
          simp only [Function.comp_def, State.targetFor_eq]
      _ ≤ s.figures.cb := by
          refine (List.sum_le_sum each).trans ?_
          rw [List.sum_map_add, ← total_eq_sum, ← total_eq_sum]
          omega

end Linked

/-- Settles O53: the sharing of each class, the cases of a single class, and the candidates' targets beside the frozen
grants. -/
theorem targetsFitBudget : Obligations.TargetsFitBudget := by
  refine ⟨fun bayMin bayCount cfree pointer l one distinct each first last => ?_, fun s tables sessions bindings =>
    State.figures_targets_le (bindings.linked tables sessions)⟩
  have use : ∀ y ∈ l, y.bay ≤ bayCount := fun y hy => (each y hy).2.1
  have least : ∀ y ∈ l, bayMin ≤ y.d := fun y hy => (each y hy).2.2
  obtain ⟨low, high⟩ := shareBudget_pointer (bayMin := bayMin) (cfree := cfree) (first.trans last) l ⟨first, last⟩
  refine ⟨shareBudget_bays, fun y hy v => targetOf_within distinct (shareBudget_within least) hy,
    shareBudget_total distinct use, low, high,
    fun y hy w hw v => shoppers_first distinct one least use hy hw, shareBudget_classes rfl rfl, fun same hl => ?_⟩
  have budget : ∀ {b : Nat} {m : List Candidate}, m ⊆ l →
      shareBudget bayMin bayCount b pointer m = shareOut bayMin bayCount b pointer m := fun hm =>
    shareBudget_oneClass fun y hy w hw => same y (hm hy) w (hm hw)
  intro share
  rw [budget (List.Subset.refl l)]
  refine ⟨fun hc => ?_, fun hc small m y hm => ?_, fun hc enough => ?_⟩
  · rw [budget (List.filter_subset_self _)]
    have shared := shareOut_covered (bayMin := bayMin) (bayCount := bayCount) (pointer := pointer) rfl hc rfl
    have targets := targetOf_covered (bayMin := bayMin) (bayCount := bayCount) (pointer := pointer) distinct rfl hc rfl
    exact ⟨(congrArg Shared.left shared).trans rfl, (congrArg Shared.pointer shared).trans rfl, targets⟩
  · subst hm
    rw [budget (List.subset_append_left _ _)]
    have shared := shareOut_dropped (bayCount := bayCount) (pointer := pointer) rfl hc small rfl
    exact ⟨(congrArg Shared.left shared).trans rfl, (congrArg Shared.pointer shared).trans rfl,
      targetOf_dropped distinct hc small⟩
  · have turns := unitBays_eq (r := cfree % l.length) first last (bays := l.map (·.bay))
      (by simpa using fun y hy => (each y hy).1)
    have shared := shareOut_even (bayCount := bayCount) hl rfl hc enough turns
    exact ⟨(congrArg Shared.left shared).trans rfl, (congrArg Shared.pointer shared).trans rfl,
      fun y hy => targetOf_even distinct hl rfl hc enough turns hy⟩

end Sys2Proof.Machine
end

section
/-! The figures of a round, one by one (R69 to R79). -/

namespace Sys2Proof.Machine

variable {s : State}

/-! ### The store load (R69, R70) -/

/-- A signed result within the range of a power. -/
theorem clampPower_eq (x : Int) : clampPower x = (min (max x 0) 65535).toNat := by
  show min x.toNat 65535 = _
  omega

/-- A result above 0 leaves its negative no power. -/
theorem clampPower_of_neg {x y : Int} (h : 0 < clampPower x) (hy : y ≤ -x) : clampPower y = 0 := by
  rw [clampPower_eq] at h ⊢
  omega

/-- A bay that is ACTIVE and in time counts with its reading, the other charging bays with what is committed (R69). -/
theorem State.csum_charging : s.csum = total (s.inServiceBays.map fun b =>
    if b.state = .active ∧ b.stale = false then b.measured
    else if b.state = .active ∨ b.state = .fallback then max (s.grant b.number).g (s.grant b.number).a
    else 0) := by
  rw [State.csum_eq]
  refine congrArg _ (List.map_congr_left fun b _ => ?_)
  simp only [decide_eq_true_eq]
  split
  · rfl
  · next late =>
    have stale : b.state = .active ∧ b.stale = true ↔ b.state = .active :=
      and_iff_left_of_imp fun active => by simpa [active] using late
    simp only [stale]

theorem le_greatest {n : Nat} {l : List Nat} (hn : n ∈ l) : n ≤ greatest l :=
  List.le_max_of_le hn le_rfl

theorem greatest_mem (n : Nat) (l : List Nat) : greatest (n :: l) ∈ n :: l := by
  induction l generalizing n with
  | nil => simp [greatest]
  | cons m l ih =>
    show max n (greatest (m :: l)) ∈ _
    rcases max_choice n (greatest (m :: l)) with first | later
    · rw [first]
      exact List.mem_cons_self
    · rw [later]
      exact List.mem_cons_of_mem _ (ih m)

/-- The load a round uses is the greatest of its history (R70). -/
theorem State.figures_loadUsed (s : State) :
    s.figures.loadUsed ∈ s.figures.history ∧ ∀ n ∈ s.figures.history, n ≤ s.figures.loadUsed := by
  refine ⟨?_, fun n hn => le_greatest hn⟩
  have ends : s.figures.history ≠ [] := List.append_ne_nil_of_right_ne_nil _ (List.cons_ne_nil _ _)
  obtain ⟨n, l, history⟩ := List.exists_cons_of_ne_nil ends
  show greatest s.figures.history ∈ s.figures.history
  rw [history]
  exact greatest_mem n l

/-! ### The reservations (R73, R74) -/

/-- A stale bay is reserved its issued grant, a FALLBACK bay its committed value (R73). -/
theorem State.rfix_charging (present : s.isPresent .network = true) : s.rfix = total (s.inServiceBays.map fun b =>
    if b.state = .active ∧ b.stale = true then (s.grant b.number).g
    else if b.state = .fallback then max (s.grant b.number).g (s.grant b.number).a
    else 0) := by
  rw [State.rfix_present present]
  refine congrArg _ (List.map_congr_left fun b _ => ?_)
  simp only [State.rfixTerm, BayRec.isStale_eq, decide_eq_true_eq]
  rfl

theorem State.chargerDemand_present (present : s.isPresent .network = true) :
    s.chargerDemand = total (s.figures.candidates.map (·.d)) + s.rfix := by
  rw [State.figures_candidates present]
  exact if_pos present

theorem State.reserved_lapsed (lapsed : s.isPresent .network = false) :
    s.rfix = s.committedSum ∧ s.chargerDemand = s.committedSum :=
  ⟨if_neg (by simp [lapsed]), if_neg (by simp [lapsed])⟩

/-! ### The battery plan (R75, R76) -/

theorem State.planCharge_eq (h : Int) (canopy loadUsed dc : Nat) : s.planCharge h canopy loadUsed dc =
    if s.ls.active.socCeil ≤ s.mi.soc ∨ s.mi.bfull.accepted = some true then 0
    else min s.cfg.bchgMax (max (if s.lookup.2.gridCharge = true ∧ s.mi.soc < s.ls.active.socTarget then h - dc
      else min (h - dc) ((canopy : Int) - loadUsed - dc)) 0).toNat := by
  have toNat_max : ∀ x : Int, (max x 0).toNat = x.toNat := by omega
  have asks : s.asksBand = true ↔ ¬ (s.ls.active.socCeil ≤ s.mi.soc ∨ s.mi.bfull.accepted = some true) := by
    rw [State.asksBand_iff, not_or, not_le]
  unfold State.planCharge
  by_cases full : s.ls.active.socCeil ≤ s.mi.soc ∨ s.mi.bfull.accepted = some true
  · rw [if_neg (fun h => asks.1 h full), if_pos full]
  · simp only [if_pos (asks.2 full), if_neg full, toNat_max, Bool.and_eq_true, decide_eq_true_eq]

theorem State.planDischarge_eq (h : Int) (dc : Nat) : s.planDischarge h dc =
    if s.mi.soc ≤ s.ls.active.socFloor ∨ s.mi.bempty.accepted = some true ∨ (dc : Int) ≤ h then 0
    else min s.cfg.bdisMax ((dc : Int) - h).toNat := by
  simp only [State.planDischarge, BoundState.isAsserted, beq_iff_eq]

/-- A charge is planned only with a headroom above the charger demand, and then no discharge (R75, R76). -/
theorem State.plan_one_side (h : Int) (canopy loadUsed dc : Nat) :
    s.planCharge h canopy loadUsed dc = 0 ∨ s.planDischarge h dc = 0 := by
  by_cases above : (dc : Int) ≤ h
  · exact .inr (by rw [State.planDischarge_eq, if_pos (.inr (.inr above))])
  · left
    rw [State.planCharge_eq]
    split
    · rfl
    · split <;> omega

theorem State.planDischarge_le (h : Int) (dc : Nat) : s.planDischarge h dc ≤ s.cfg.bdisMax := by
  rw [State.planDischarge_eq]
  split
  · exact Nat.zero_le _
  · exact Nat.min_le_left _ _

/-! ### The figures together -/

/-- Settles O52: each figure by its lemma, the candidates and the frozen bays by the bound bays' order. -/
theorem roundFiguresFollowRules : Obligations.RoundFiguresFollowRules := by
  intro q f present plant csum h x
  have fit : present ↔ q.isPresent .network = true := (q.isPresent_iff .network).symm
  have load : f.load = (min (max (plant - csum) 0) 65535).toNat := by
    rw [← clampPower_eq]
    exact congrArg (fun n : Nat => clampPower (plant - n)) State.csum_charging
  obtain ⟨used, most⟩ := q.figures_loadUsed
  refine ⟨load, rfl, used, most, rfl, fun w hw => ?_, rfl, fun hp => ?_, fun hp tables sessions bindings => ?_,
    fun hp => ?_, State.planCharge_eq _ _ _ _, State.planDischarge_eq _ _, State.plan_one_side _ _ _ _, q.figures_charge_le,
    State.planDischarge_le _ _, clampPower_eq _, rfl, clampPower_eq _, fun short => clampPower_of_neg short ?_⟩
  · show q.allowance = _
    rw [State.allowance, hw]
  · have hp := fit.1 hp
    refine ⟨State.rfix_charging hp, State.chargerDemand_present hp, ?_, fun y hy => State.of_mem_candidates ?_⟩
    · rw [State.figures_candidates hp]
      exact State.figures_shared hp
    · rwa [← State.figures_candidates hp]
  · have hp := fit.1 hp
    have linked := bindings.linked tables sessions
    intro opened charging demand stale granted
    have order : q.staleOrder = stale := State.staleOrder_eq linked
    obtain ⟨n, few, left, fits, most⟩ := q.frozen_eq_take f.cb
    rw [order] at few left fits most
    refine ⟨(State.figures_candidates hp).trans (State.candidates_eq linked), n, few, fits, most, ?_⟩
    refine (State.figures_targets hp).trans (List.map_congr_left fun b _ => ?_)
    rw [left, State.targetFor_eq]
  · have hp : q.isPresent .network = false := by simpa using mt fit.2 hp
    obtain ⟨candidates, targets, pointer⟩ := State.figures_lapsed hp
    obtain ⟨rfix, dc⟩ := State.reserved_lapsed hp
    exact ⟨rfix, dc, candidates, targets, pointer⟩
  · show q.figures.headroom + q.figures.discharge - q.figures.charge ≤ -(-(q.figures.headroom + q.figures.discharge))
    omega

end Sys2Proof.Machine
end

section
/-! What the laws of the grants read of a state beside the grant records, and the operations that leave all of it alone. -/

namespace Sys2Proof.Machine

/-! ### States that the grants cannot tell apart -/

/-- The grants are as before, and so is what their laws read of the site, the configuration and the latest round. Port N has not
lapsed, every bay has its connector, and only the bays of `out` may have gone out of service. -/
structure State.Steady (out : Nat → Prop) (s t : State) : Prop where
  site : t.site = s.site := by rfl
  cfg : t.cfg = s.cfg := by rfl
  gt : t.gt = s.gt := by rfl
  results : t.al.results = s.al.results := by rfl
  present : s.isPresent .network = true → t.isPresent .network = true := by exact id
  bays : ∀ b ∈ t.bt.bays, ∃ a ∈ s.bt.bays, a.number = b.number ∧ a.connectorMax = b.connectorMax ∧
    (b.state = .outOfService → a.state = .outOfService ∨ out b.number) := by exact fun b hb => ⟨b, hb, rfl, rfl, .inl⟩

variable {out : Nat → Prop} {s t u : State}

theorem State.Steady.refl (s : State) : s.Steady out s := {}

theorem State.Steady.trans (h : s.Steady out t) (h' : t.Steady out u) : s.Steady out u where
  site := h'.site.trans h.site
  cfg := h'.cfg.trans h.cfg
  gt := h'.gt.trans h.gt
  results := h'.results.trans h.results
  present := h'.present ∘ h.present
  bays c hc := by
    obtain ⟨b, hb, number, connector, service⟩ := h'.bays c hc
    obtain ⟨a, ha, number', connector', service'⟩ := h.bays b hb
    refine ⟨a, ha, number'.trans number, connector'.trans connector, fun hout => ?_⟩
    exact (service hout).elim (fun hb => number ▸ service' hb) .inr

/-- An alternative leaves the grants' surroundings steady if both its ways do. -/
theorem State.Steady.ite {c : Prop} [Decidable c] (h : s.Steady out t) (h' : s.Steady out u) :
    s.Steady out (if c then t else u) := by
  split
  · exact h
  · exact h'

variable (s)

/-! ### Ports and notices -/

theorem State.updPort_steady (p : Port) (f : PortState → PortState) (h : ∀ x, (f x).presence = x.presence) :
    s.Steady out (s.updPort p f) where
  present := by
    cases p
    · simp only [State.isPresent, State.port_updPort_same, h]
      exact id
    · exact id
    · exact id

theorem State.raise_steady (p : Port) (n : Notice) (a b : Detail) : s.Steady out (s.raise p n a b) :=
  s.updPort_steady p _ fun _ => rfl

theorem State.respond_steady (p : Port) (tag code : Byte) (x : Status) (r : Reply) : s.Steady out (s.respond p tag code x r) :=
  s.updPort_steady p _ fun _ => rfl

theorem State.emptyReceiver_steady (p : Port) : s.Steady out (s.emptyReceiver p) :=
  s.updPort_steady p _ fun _ => rfl

theorem State.countOverrun_steady (p : Port) : s.Steady out (s.countOverrun p) :=
  s.updPort_steady p (fun x => { x with overrun := countUp x.overrun }) (fun _ => rfl) |>.trans
    (State.emptyReceiver_steady _ p)

theorem PortState.countFailure_presence (k : Nat) (x : PortState) : (x.countFailure k).presence = x.presence := by
  unfold PortState.countFailure
  split <;> rfl

theorem State.discardFrame_steady (p : Port) : s.Steady out (s.discardFrame p) := by
  unfold State.discardFrame
  refine State.Steady.ite (.refl s) (State.Steady.ite (s.countOverrun_steady p) ?_)
  split
  · exact .refl s
  · exact (s.updPort_steady p _ (PortState.countFailure_presence _)).trans (State.emptyReceiver_steady _ p)

theorem State.unknownFrame_steady (p : Port) (tag code : Byte) : s.Steady out (s.unknownFrame p tag code) :=
  State.Steady.ite (State.Steady.ite (s.countOverrun_steady p)
    ((s.emptyReceiver_steady p).trans (State.respond_steady _ _ _ _ _ _))) (.refl s)

theorem State.clearNotice_steady (p : Port) (x : Option (Nat × Notice)) : s.Steady out (s.clearNotice p x) := by
  unfold State.clearNotice
  split
  · exact .refl s
  · exact s.updPort_steady p _ fun _ => rfl

theorem State.lapsePort_steady {p : Port} (h : p ≠ .network) : s.Steady out (s.lapsePort p) := by
  cases p with
  | network => exact absurd rfl h
  | till => exact {}
  | energy => exact {}

/-! ### Sessions, receipts and vouchers -/

theorem State.mapBays_steady (f : BayRec → BayRec) (number : ∀ b, (f b).number = b.number)
    (connector : ∀ b, (f b).connectorMax = b.connectorMax)
    (service : ∀ b, (f b).state = .outOfService → b.state = .outOfService ∨ out b.number) : s.Steady out (s.mapBays f) where
  bays c hc := by
    obtain ⟨b, hb, rfl⟩ := List.mem_map.1 hc
    exact ⟨b, hb, (number b).symm, (connector b).symm, fun h => number b ▸ service b h⟩

theorem State.updBay_steady (k : Nat) (f : BayRec → BayRec) (number : ∀ b, (f b).number = b.number)
    (connector : ∀ b, (f b).connectorMax = b.connectorMax)
    (service : ∀ b, (f b).state = .outOfService → b.state = .outOfService ∨ out k) : s.Steady out (s.updBay k f) := by
  refine s.mapBays_steady (fun b => if b.number = k then f b else b) (fun b => ?_) (fun b => ?_) fun b => ?_
  · simp only [apply_ite BayRec.number, number, ite_self]
  · simp only [apply_ite BayRec.connectorMax, connector, ite_self]
  · split
    · next hk => exact hk ▸ service b
    · exact .inl

theorem State.openSession_steady (k base : Nat) {x : BayState} (h : x ≠ .outOfService) (m : Option Nat) :
    s.Steady out (s.openSession k base x m) :=
  State.Steady.trans (t := { s with st := _ }) {}
    (State.updBay_steady _ k _ (fun _ => rfl) (fun _ => rfl) fun _ hout => absurd hout h)

theorem State.admitHead_steady : s.Steady out s.admitHead := by
  cases hw : s.bt.slotWait with
  | nil =>
    rw [s.admitHead_nil hw]
    exact .refl s
  | cons k rest =>
    obtain ⟨base, x, m, charges, e⟩ := s.admitHead_eq hw
    have left : s.Steady out { s with bt := { s.bt with slotWait := rest } } := {}
    rw [e]
    exact left.trans (State.openSession_steady _ _ _ (by rintro rfl; exact charges.elim nofun nofun) _)

theorem State.receiptSession_steady (n : Nat) : s.Steady out (s.receiptSession n) := by
  unfold State.receiptSession
  split
  · exact .refl s
  · next x _ => exact State.Steady.trans (t := (s.buildReceipt x).dropSession n) {} (State.admitHead_steady _)

theorem State.askPlace_steady (n : Nat) : s.Steady out (s.askPlace n) :=
  (s.receiptSession_steady n).ite {}

theorem State.fillPlaces_steady (k : Nat) : s.Steady out (State.fillPlaces k s) := by
  have fill (s : State) : s.Steady out s.fillPlace := by
    unfold State.fillPlace
    refine State.Steady.ite ?_ (.refl s)
    split
    · exact .refl s
    · exact State.Steady.trans (t := { s with st := _ }) {} (State.receiptSession_steady _ _)
  induction k generalizing s with
  | zero => exact .refl s
  | succ k ih => exact (fill s).trans (ih _)

theorem State.settle_steady : s.Steady out s.settle :=
  State.Steady.trans (t := { s with rq := _ }) {} (State.fillPlaces_steady _ _)

theorem State.takeReceipt_steady (p : Port) (n : Nat) : s.Steady out (s.takeReceipt p n) :=
  State.Steady.trans (t := { s with rq := _ }) {} (State.settle_steady _)

theorem State.releaseTillHold_steady : s.Steady out s.releaseTillHold :=
  State.Steady.ite (State.Steady.trans (t := { s with rq := _ }) {} (State.settle_steady _)) (.refl s)

theorem State.dropVoucher_steady (v : Option Nat) : s.Steady out (s.dropVoucher v) := by
  obtain ⟨vl, h⟩ := s.dropVoucher_frame v
  rw [h]
  exact {}

theorem State.expireVouchers_steady : s.Steady out s.expireVouchers := by
  have raised (l : List Voucher) (s : State) : s.Steady out (l.foldl State.raiseExpired s) := by
    induction l generalizing s with
    | nil => exact .refl s
    | cons v l ih => exact (s.raise_steady _ _ _ _).trans (ih _)
  exact State.Steady.trans (t := { s with vl := _ }) {} (raised _ _)

/-- A closing takes its bay out of service where it is asked to (R124, R58). -/
theorem State.closeSession_steady (k : Nat) (c : CloseCause) {x : BayState} (h : x = .outOfService → out k) :
    s.Steady out (s.closeSession k c x) := by
  have closed : s.Steady out (s.updBay k (BayRec.closed x)) :=
    s.updBay_steady k _ (fun _ => rfl) (fun _ => rfl) fun _ hout => .inr (h hout)
  cases hn : (s.bay k).bind (·.session) with
  | none =>
    rw [s.closeSession_none hn]
    exact closed
  | some n =>
    have unbound : s.Steady out (s.unbound k n c x) := by
      rw [s.unbound_eq]
      exact { bays := closed.bays }
    rw [s.closeSession_some hn]
    exact unbound.trans (State.askPlace_steady _ _)

/-! ### Bays -/

theorem State.setBayState_steady (k : Nat) {x : BayState} (h : x = .outOfService → out k) :
    s.Steady out (s.setBayState k x) :=
  s.updBay_steady k _ (fun _ => rfl) (fun _ => rfl) fun _ hout => .inr (h hout)

theorem State.reportCharging_steady (b : BayRec) (x : ReportEntry) (dt : Nat) : s.Steady out (s.reportCharging b x dt) := by
  have read : s.Steady out (s.passReading b.session x.reading dt x.connectorMax) := by
    obtain ⟨st, h⟩ := s.passReading_frame b.session x.reading dt x.connectorMax
    rw [h]
    exact {}
  exact read.ite (read.trans (State.closeSession_steady _ _ _ (x := .vacant) nofun))

/-- What an entry does beside the refresh takes no bay out of service (R50 to R54). -/
theorem State.reportAction_steady (b : BayRec) (x : ReportEntry) (dt : Nat) : s.Steady out (s.reportAction b x dt) := by
  unfold State.reportAction
  split
  · have waits : s.Steady out (s.setBayState x.bay .waiting) := s.setBayState_steady _ nofun
    exact State.Steady.ite ((s.openSession_steady _ _ (x := .active) nofun _).ite (waits.trans
      { bays := fun b hb => ⟨b, hb, rfl, rfl, .inl⟩ })) (.refl s)
  · have left : s.Steady out (s.leaveWait x.bay) := {}
    exact State.Steady.ite (.refl s) (left.trans (State.setBayState_steady _ _ nofun))
  · exact s.reportCharging_steady b x dt
  · exact State.Steady.ite (.refl s) (s.setBayState_steady _ (x := .vacant) nofun)
  · exact (s.updBay_steady x.bay (BayRec.leave .active) (fun _ => rfl) (fun _ => rfl) fun _ => nofun).trans
      (State.reportCharging_steady _ b x dt)
  · exact .refl s

theorem State.takeIn_steady (b : BayRec) : s.Steady out (s.takeIn b) := by
  unfold State.takeIn
  split
  · exact s.setBayState_steady _ (x := .vacant) nofun
  all_goals exact .refl s

theorem State.abandon_steady : s.Steady out s.abandon := by
  have all (ks : List Nat) (s : State) : s.Steady out (ks.foldl State.abandonBay s) := by
    induction ks generalizing s with
    | nil => exact .refl s
    | cons k ks ih => exact (s.closeSession_steady k _ (x := .done) nofun).trans (ih _)
  exact (all _ s).ite (.refl s)

theorem State.markStale_steady : s.Steady out s.markStale :=
  s.mapBays_steady _ (fun b => by split <;> rfl) (fun b => by split <;> rfl) fun b => by split <;> exact .inl

theorem State.markStaleBay_steady (k : Nat) : s.Steady out (s.markStaleBay k) :=
  s.updBay_steady k _ (fun b => by split <;> rfl) (fun b => by split <;> rfl) fun b => by split <;> exact .inl

/-! ### Metering and the window -/

theorem State.sampleChannel_steady (ch : Channel) (level : Bool) : s.Steady out (s.sampleChannel ch level) := by
  obtain ⟨mi, dg, h⟩ := s.sampleChannel_frame ch level
  rw [h]
  exact {}

theorem State.setBound_steady (b : BoundLine) (x : BoundState) : s.Steady out (s.setBound b x) := by
  cases b <;> exact {}

theorem State.sampleBound_steady (b : BoundLine) (level : Bool) : s.Steady out (s.sampleBound b level) := by
  unfold State.sampleBound
  dsimp only
  split
  · have set := s.setBound_steady (out := out) b ⟨some level, some (filterStep Config.boundFilter (s.bound b).filt level)⟩
    refine State.Steady.ite (set.trans ?_) set
    have soc (t : State) : t.Steady out { t with mi := { t.mi with soc := t.boundSoc b } } := {}
    exact (soc _).trans (State.raise_steady _ _ _ _ _)
  · exact s.setBound_steady b _

theorem State.expireSilence_steady (ch : Channel) : s.Steady out (s.expireSilence ch) :=
  State.Steady.ite (State.Steady.trans (t := State.updChan ch _ s) {} (State.raise_steady _ _ _ _ _)) (.refl s)

theorem State.recordWindow_steady (w : Window) (n : Nat) (cut : Bool) : s.Steady out (s.recordWindow w n cut) := by
  have recorded : s.Steady out { s with dg := { s.dg with history := appendHistory s.dg.history (historyEntry w n cut) } } := {}
  exact (recorded.trans (State.raise_steady _ _ _ _ _)).ite recorded

theorem State.clockCut_steady (before : State) : s.Steady out (s.clockCut before) := by
  unfold State.clockCut
  split
  · exact .refl s
  · exact (s.recordWindow_steady _ _ true).trans {}

theorem State.endWindow_steady : s.Steady out s.endWindow := by
  unfold State.endWindow
  split
  · exact .refl s
  · exact State.Steady.ite ((s.recordWindow_steady _ _ false).trans {}) (.refl s)

end Sys2Proof.Machine
end

section
/-! A law of the grants is kept by every command once it is kept by the few operations that move the grants or what the law
reads beside them. -/

namespace Sys2Proof.Machine

variable {s t : State}

/-! ### Requests that leave the grants steady -/

section Requests

variable {out : Nat → Prop} (s)

theorem State.Steady.of_eq (h : t = s) : s.Steady out t :=
  h.symm ▸ .refl s

theorem handlePing_steady (p : Port) (payload : List Byte) : s.Steady out (handlePing p payload s).1 := by
  unfold handlePing
  split
  · exact .refl s
  · exact State.Steady.ite (s.updPort_steady p _ fun _ => rfl) (.refl s)

theorem handleReadNotice_steady (p : Port) (payload : List Byte) : s.Steady out (handleReadNotice p payload s).1 := by
  unfold handleReadNotice
  split
  · exact .refl s
  · exact s.clearNotice_steady p _

theorem handleSetNoticeMask_steady (p : Port) (payload : List Byte) : s.Steady out (handleSetNoticeMask p payload s).1 := by
  unfold handleSetNoticeMask
  split
  · exact .refl s
  · next m _ => exact s.updPort_steady p (fun x => { x with mask := m &&& fullMask p }) fun _ => rfl

theorem handleSetLimits_steady (body : Body LimitFields) : s.Steady out (handleSetLimits body s).1 := by
  unfold handleSetLimits
  split
  · exact .refl s
  · split
    · exact .refl s
    · exact {}

theorem handleSetTariff_steady (body : Body (List BandFields)) : s.Steady out (handleSetTariff body s).1 := by
  unfold handleSetTariff
  split
  · exact .refl s
  · split
    · exact {}
    · exact .refl s

theorem handleSetClock_steady (payload : List Byte) : s.Steady out (handleSetClock payload s).1 := by
  unfold handleSetClock
  split
  · exact .refl s
  · next minute seconds _ =>
    have set : s.Steady out { s with tb := s.tb.setClock minute seconds } := {}
    exact State.Steady.ite (set.trans (State.clockCut_steady _ s)) set

theorem handleReadSite_steady (payload : List Byte) : s.Steady out (handleReadSite payload s).1 := by
  cases payload with
  | nil => exact {}
  | cons b l => exact .refl s

theorem handleEndSession_steady (payload : List Byte) : s.Steady out (handleEndSession payload s).1 := by
  unfold handleEndSession
  split
  · exact .refl s
  · split
    · exact .refl s
    · split
      · exact .refl s
      · split
        · exact .refl s
        · split
          · exact s.closeSession_steady _ _ nofun
          · exact .refl s

theorem handlePostVoucher_steady (body : Body PostFields) : s.Steady out (handlePostVoucher body s).1 := by
  unfold handlePostVoucher
  split
  · exact .refl s
  · split
    · exact .refl s
    · split
      · exact .refl s
      · split
        · exact .refl s
        · split
          · exact .refl s
          · exact {}

theorem handleClaimVoucher_steady (body : Body ClaimFields) : s.Steady out (handleClaimVoucher body s).1 := by
  unfold handleClaimVoucher
  split
  · exact .refl s
  · split
    · exact .refl s
    · split
      · exact .refl s
      · split
        · exact .refl s
        · split
          · exact .refl s
          · split
            · exact .refl s
            · exact {}

theorem handleWithdrawVoucher_steady (body : Body Word) : s.Steady out (handleWithdrawVoucher body s).1 := by
  unfold handleWithdrawVoucher
  split
  · exact .refl s
  · split
    · exact .refl s
    · next v _ =>
      split
      · exact s.dropVoucher_steady (some _)
      · obtain ⟨st, h⟩ := (s.updVoucher v.number fun y => { y with state := .withdrawn }).withdrawCredit_frame v.session
        dsimp only
        rw [h]
        exact {}
      · exact .refl s

theorem handleTakeReceipt_steady (p : Port) (body : Body Word) : s.Steady out (handleTakeReceipt p body s).1 := by
  unfold handleTakeReceipt
  split
  · exact .refl s
  · split
    · exact .refl s
    · split
      · exact s.takeReceipt_steady p _
      · exact .refl s

end Requests

/-! ### Laws kept by the operations on the grants -/

/-- A law `P` that steady states share, and that the operations keep which move the grants, the bays' service and connectors,
the configuration, the site state, port N's lapse or the latest round, or which reset the part. They may lean on a law `C` that
holds before the command. -/
structure GrantLaw (C P : State → Prop) : Prop where
  arrive_context : ∀ (s : State) (p : Port), C s → C (s.arrive p)
  entry_context : ∀ (s : State) (x : ReportEntry), s.isRun = true → C s → C (s.takeEntry x)
  steady : ∀ {s t : State}, s.Steady (fun _ => False) t → P s → P t
  arrive : ∀ (s : State) (p : Port), P s → P (s.arrive p)
  refresh : ∀ (s : State) (b : BayRec) (x : ReportEntry), s.bay x.bay = some b → C s → P s → P (s.refreshBay b x)
  outGrant : ∀ (s t : State) (k : Nat), s.Steady (· = k) t → P s → P (t.outGrant k)
  acknowledge : ∀ (s : State) (e : Nat), e ≤ s.gt.eg → P s →
    P { s with gt := { s.gt with grants := s.gt.grants.map (ackGrant s.tb.ms e), ea := e } }
  expireOverdue : ∀ (s : State) (k : Nat), P s → P (s.expireOverdue k)
  lapse : ∀ s : State, C s → P s → P (if s.isRun then (s.lapsePort .network).lapseTreatment else s.lapsePort .network)
  takeConfig : ∀ (s : State) (cfg : SiteCfg), s.isRun = false → P s → P (s.takeConfig cfg)
  commit : ∀ s : State, s.isRun = false → C s → P s → P s.commit
  configure : ∀ s : State, P s → P s.configure
  tick : ∀ s : State, s.isRun = true → C s → P s → P s.tick
  powerUp : ∀ (straps : Straps) (kind : Nat) (pending : List Instr), P (State.powerUp straps kind pending)
  restart : ∀ (s : State) (straps : Straps), C s → P s → P (s.restart straps)

namespace GrantLaw

variable {C P : State → Prop} (K : GrantLaw C P)
include K

/-! The requests that move the grants -/

theorem takeEntry (x : ReportEntry) (hc : C s) (hs : P s) : P (s.takeEntry x) := by
  unfold State.takeEntry
  split
  · exact hs
  · next b hb => exact K.steady (State.reportAction_steady _ b x _) (K.refresh s b x hb hc hs)

theorem takeEntries (l : List ReportEntry) (hrun : s.isRun = true) (hc : C s) (hs : P s) : P (takeEntries l s).1 := by
  induction l generalizing s with
  | nil => exact hs
  | cons x l ih =>
    exact ih ((s.takeEntry_alike x).isRun.trans hrun) (K.entry_context s x hrun hc) (K.takeEntry x hc hs)

theorem handleBayReports (payload : List Byte) (hc : C s) (hs : P s) : P (handleBayReports payload s).1 := by
  unfold Machine.handleBayReports
  split
  · exact hs
  · split
    · exact hs
    · next run =>
      split
      · exact hs
      · exact K.takeEntries _ (by simpa using run) hc hs

theorem handleAckGrants (payload : List Byte) (hs : P s) : P (handleAckGrants payload s).1 := by
  unfold Machine.handleAckGrants
  split
  · exact hs
  · next e _ =>
    split
    · exact hs
    · next le =>
      dsimp only
      split
      · exact hs
      · exact K.acknowledge s e (Nat.not_lt.1 le) hs

/-- A bay taken out loses its grants with its service (R58, R99). -/
theorem takeOut (b : BayRec) (hs : P s) : P (s.takeOut b) := by
  have close := s.closeSession_steady (out := (· = b.number)) b.number .outOfService (x := .outOfService) fun _ => rfl
  have move (t : State) := t.setBayState_steady (out := (· = b.number)) b.number (x := .outOfService) fun _ => rfl
  have left : s.Steady (· = b.number) (s.leaveWait b.number) := {}
  unfold State.takeOut
  split
  · exact K.outGrant s _ _ close hs
  · exact K.outGrant s _ _ close hs
  · exact K.outGrant s _ _ (left.trans (move _)) hs
  · exact K.outGrant s _ _ (move s) hs
  · exact K.outGrant s _ _ (move s) hs
  · exact hs

theorem handleSetBayService (payload : List Byte) (hs : P s) : P (handleSetBayService payload s).1 := by
  unfold Machine.handleSetBayService
  split
  · exact hs
  · split
    · exact hs
    · split
      · exact hs
      · next b _ =>
        dsimp only
        split
        · exact K.steady (s.takeIn_steady b) hs
        · exact K.takeOut b hs

theorem handleWriteConfig (body : Body (List ConfigPair)) (hs : P s) : P (handleWriteConfig body s).1 := by
  unfold Machine.handleWriteConfig
  split
  · exact hs
  · split
    · exact hs
    · split
      · exact hs
      · next hrun => exact K.takeConfig s _ (by simpa using hrun) hs

theorem handleCommitSite (payload : List Byte) (hc : C s) (hs : P s) : P (handleCommitSite payload s).1 := by
  cases payload with
  | cons b l => exact hs
  | nil =>
    simp only [Machine.handleCommitSite, bareRequest]
    split
    · exact hs
    · next hrun =>
      split
      · exact hs
      · exact K.commit s (by simpa using hrun) hc hs

theorem handleEnterConfigure (payload : List Byte) (hs : P s) : P (handleEnterConfigure payload s).1 := by
  cases payload with
  | cons b l => exact hs
  | nil =>
    simp only [Machine.handleEnterConfigure, bareRequest]
    split
    · exact hs
    · split
      · exact K.configure s hs
      · exact hs

/-! The events that move the grants -/

theorem expirePresence (p : Port) (hc : C s) (hs : P s) : P (s.expirePresence p) := by
  unfold State.expirePresence
  split
  · cases p with
    | network => exact K.lapse s hc hs
    | till => exact K.steady (s.lapsePort_steady nofun) hs
    | energy => exact K.steady (s.lapsePort_steady nofun) hs
  · exact hs

theorem release (straps : Straps) (hc : C s) (hs : P s) : P (s.release straps) := by
  unfold State.release
  split
  · exact hs
  · exact K.powerUp _ _ _
  · split
    · exact K.restart s straps hc hs
    · exact K.powerUp _ _ _

/-! ### Every command -/

/-- A request keeps the law if its block does. -/
theorem request {ports : List Port} {p : Port} {tag code : Byte} {f : Handler} (hc : C s) (hs : P s)
    (hf : ∀ s, C s → P s → P (f s).1) : P (takeRequest ports p tag code f s) := by
  have arrived := K.arrive s p hs
  unfold takeRequest
  split
  · exact hs
  · split
    · exact K.steady (s.countOverrun_steady p) hs
    · dsimp only
      split
      · exact K.steady (State.respond_steady _ _ _ _ _ _) (hf _ (K.arrive_context s p hc) arrived)
      · exact K.steady (State.respond_steady _ _ _ _ _ _) arrived

/-- A request whose block leaves the grants steady keeps the law. -/
theorem quietRequest {ports : List Port} {p : Port} {tag code : Byte} {f : Handler} (hc : C s) (hs : P s)
    (hf : ∀ s : State, s.Steady (fun _ => False) (f s).1) : P (takeRequest ports p tag code f s) :=
  K.request hc hs fun s _ => K.steady (hf s)

/-- A request that reads the state keeps the law. -/
theorem readRequest {ports : List Port} {p : Port} {tag code : Byte} {f : Handler} (hc : C s) (hs : P s)
    (hf : ∀ s : State, (f s).1 = s) : P (takeRequest ports p tag code f s) :=
  K.quietRequest hc hs fun s => .of_eq s (hf s)

/-- An event whose effect leaves the grants steady keeps the law. -/
theorem quietEvent {f : State → State} (hs : P s) (hf : s.Steady (fun _ => False) (f s)) : P (unlessHeld f s) :=
  Lasting.event (K.steady hf) hs

/-- Every command has a next state, and the law holds there. -/
theorem exec (i : Instr) (hc : C s) (hs : P s) : ∃ t, exec i s = .next t ∧ P t := by
  cases i with
  | ping p tag payload => exact ⟨_, rfl, K.quietRequest hc hs (handlePing_steady · p payload)⟩
  | readNotice p tag payload => exact ⟨_, rfl, K.quietRequest hc hs (handleReadNotice_steady · p payload)⟩
  | setNoticeMask p tag payload => exact ⟨_, rfl, K.quietRequest hc hs (handleSetNoticeMask_steady · p payload)⟩
  | writeConfig p tag body => exact ⟨_, rfl, K.request hc hs fun _ _ => K.handleWriteConfig body⟩
  | readConfig p tag payload => exact ⟨_, rfl, K.readRequest hc hs (bareRequest_state · payload _ rfl)⟩
  | commitSite p tag payload => exact ⟨_, rfl, K.request hc hs fun _ => K.handleCommitSite payload⟩
  | enterConfigure p tag payload => exact ⟨_, rfl, K.request hc hs fun _ _ => K.handleEnterConfigure payload⟩
  | setLimits p tag body => exact ⟨_, rfl, K.quietRequest hc hs (handleSetLimits_steady · body)⟩
  | setTariff p tag body => exact ⟨_, rfl, K.quietRequest hc hs (handleSetTariff_steady · body)⟩
  | setClock p tag payload => exact ⟨_, rfl, K.quietRequest hc hs (handleSetClock_steady · payload)⟩
  | readSite p tag payload => exact ⟨_, rfl, K.quietRequest hc hs (handleReadSite_steady · payload)⟩
  | readWindows p tag payload => exact ⟨_, rfl, K.readRequest hc hs (bareRequest_state · payload _ rfl)⟩
  | readChannels p tag payload => exact ⟨_, rfl, K.readRequest hc hs (bareRequest_state · payload _ rfl)⟩
  | readSession p tag body => exact ⟨_, rfl, K.readRequest hc hs (handleReadSession_state · body)⟩
  | bayReports p tag payload => exact ⟨_, rfl, K.request hc hs fun _ => K.handleBayReports payload⟩
  | readGrants p tag payload => exact ⟨_, rfl, K.readRequest hc hs fun _ => rfl⟩
  | ackGrants p tag payload => exact ⟨_, rfl, K.request hc hs fun _ _ => K.handleAckGrants payload⟩
  | endSession p tag payload => exact ⟨_, rfl, K.quietRequest hc hs (handleEndSession_steady · payload)⟩
  | setBayService p tag payload => exact ⟨_, rfl, K.request hc hs fun _ _ => K.handleSetBayService payload⟩
  | claimVoucher p tag body => exact ⟨_, rfl, K.quietRequest hc hs (handleClaimVoucher_steady · body)⟩
  | readBay p tag payload => exact ⟨_, rfl, K.readRequest hc hs (handleReadBay_state · payload)⟩
  | postVoucher p tag body => exact ⟨_, rfl, K.quietRequest hc hs (handlePostVoucher_steady · body)⟩
  | withdrawVoucher p tag body => exact ⟨_, rfl, K.quietRequest hc hs (handleWithdrawVoucher_steady · body)⟩
  | readVoucher p tag body => exact ⟨_, rfl, K.readRequest hc hs (handleReadVoucher_state · body)⟩
  | peekReceipt p tag payload => exact ⟨_, rfl, K.readRequest hc hs (handlePeekReceipt_state · p payload)⟩
  | takeReceipt p tag body => exact ⟨_, rfl, K.quietRequest hc hs (handleTakeReceipt_steady · p body)⟩
  | frameDiscard p => exact ⟨_, rfl, K.quietEvent hs (s.discardFrame_steady p)⟩
  | overrun p => exact ⟨_, rfl, K.quietEvent hs ((s.countOverrun_steady p).ite (.refl s))⟩
  | unknownCommand p tag code => exact ⟨_, rfl, K.quietEvent hs (s.unknownFrame_steady p tag code)⟩
  | responseEnd p => exact ⟨_, rfl, K.quietEvent hs (s.updPort_steady p _ fun _ => rfl)⟩
  | monotonicMinuteEvent => exact ⟨_, rfl, K.quietEvent hs (State.Steady.ite {} (.refl s))⟩
  | clockMinuteEvent => exact ⟨_, rfl, K.quietEvent hs {}⟩
  | roundTick =>
    refine ⟨_, rfl, Lasting.event (fun hs => ?_) hs⟩
    split
    · next due => exact K.tick s (Lasting.isRun_of_tick due) hc hs
    · exact hs
  | staleMark k => exact ⟨_, rfl, K.quietEvent hs ((s.markStaleBay_steady k).ite (.refl s))⟩
  | periodEnd =>
    refine ⟨_, rfl, K.quietEvent hs ?_⟩
    obtain ⟨jl, tb, so, e⟩ := s.endPeriod_frame
    rw [e]
    exact {}
  | presenceExpiry p => exact ⟨_, rfl, Lasting.event (K.expirePresence p hc) hs⟩
  | silenceExpiry ch => exact ⟨_, rfl, K.quietEvent hs (s.expireSilence_steady ch)⟩
  | overdueExpiry k => exact ⟨_, rfl, Lasting.event (K.expireOverdue s k) hs⟩
  | windowEnd => exact ⟨_, rfl, K.quietEvent hs s.endWindow_steady⟩
  | voucherExpiry => exact ⟨_, rfl, K.quietEvent hs s.expireVouchers_steady⟩
  | abandonment => exact ⟨_, rfl, K.quietEvent hs s.abandon_steady⟩
  | tillHoldRelease => exact ⟨_, rfl, K.quietEvent hs s.releaseTillHold_steady⟩
  | pulse ch => exact ⟨_, rfl, K.quietEvent hs ((s.sampleChannel_steady ch _).ite (.refl s))⟩
  | inactiveLevelChange ch level => exact ⟨_, rfl, K.quietEvent hs ((s.sampleChannel_steady ch level).ite (.refl s))⟩
  | boundAssertion b => exact ⟨_, rfl, K.quietEvent hs ((s.sampleBound_steady b true).ite (.refl s))⟩
  | boundDeassertion b => exact ⟨_, rfl, K.quietEvent hs ((s.sampleBound_steady b false).ite (.refl s))⟩
  | powerUpReset => exact ⟨_, rfl, K.steady {} (K.powerUp s.straps 1 s.pending)⟩
  | pinReset => exact ⟨_, rfl, K.steady {} hs⟩
  | resetRelease size1 size0 speed => exact ⟨_, rfl, K.release _ hc hs⟩
  | vbakFailure => exact ⟨_, rfl, K.steady {} hs⟩
  | filterSample line level =>
    refine ⟨_, rfl, K.quietEvent hs ?_⟩
    cases line with
    | channel ch => exact s.sampleChannel_steady ch level
    | bound b => exact s.sampleBound_steady b level
  | characterReceived p byte stopLow => exact ⟨_, rfl, K.quietEvent hs (s.updPort_steady p _ fun _ => rfl)⟩
  | receiverGap p => exact ⟨_, rfl, K.quietEvent hs (s.updPort_steady p _ fun _ => rfl)⟩

/-- Every step keeps the law: a command taken from the queue, or an empty queue. -/
theorem step (queued : ∀ rest, C { s with pending := rest }) (hs : P s) (h : step s = .next t) : P t := by
  unfold Machine.step at h
  split at h
  · cases h
    exact hs
  · next i rest _ =>
    obtain ⟨u, hu, kept⟩ := K.exec i (queued rest) (K.steady {} hs)
    rw [hu] at h
    cases h
    exact kept

end GrantLaw

end Sys2Proof.Machine
end

section
/-! The order of the epochs is kept by every step (R94). -/

namespace Sys2Proof.Machine

variable {s t : State}

/-! ### The epochs of a record -/

theorem GrantRec.move_e (now : Word) (g a : Nat) (x : GrantRec) : (x.move now g a).e = x.e := by
  unfold GrantRec.move
  split
  · rfl
  · split <;> rfl

theorem reduceGrant_e (now : Word) (l : List (Nat × Nat)) (x : GrantRec) : (reduceGrant now l x).e = x.e := by
  unfold reduceGrant
  split
  · split
    · exact x.move_e _ _ _
    · rfl
  · rfl

theorem ackGrant_e (now : Word) (e : Nat) (x : GrantRec) : (ackGrant now e x).e = x.e := by
  unfold ackGrant
  split
  · exact x.move_e _ _ _
  · rfl

theorem nextEpoch_le {n : Nat} (h : n ≤ Config.maxWord) : n ≤ nextEpoch n ∧ nextEpoch n ≤ Config.maxWord := by
  unfold nextEpoch
  split
  · exact ⟨le_rfl, h⟩
  · omega

/-! ### The operations on the grants -/

/-- The epochs are read from the Grant Table alone. -/
theorem State.EpochsOk.of_gt (hs : s.EpochsOk) (h : t.gt = s.gt := by rfl) : t.EpochsOk where
  greatest := h ▸ hs.greatest
  acknowledged := h ▸ hs.acknowledged
  issued := h ▸ hs.issued

/-- Grant records that keep their epochs keep the order. -/
theorem State.EpochsOk.mapGrants (hs : s.EpochsOk) {f : GrantRec → GrantRec} (hf : ∀ x, (f x).e = x.e) :
    (s.mapGrants f).EpochsOk where
  greatest := hs.greatest
  acknowledged := hs.acknowledged
  issued y hy := by
    obtain ⟨x, hx, rfl⟩ := List.mem_map.1 hy
    exact (hf x).trans_le (hs.issued x hx)

theorem State.EpochsOk.updGrant (hs : s.EpochsOk) (k : Nat) {f : GrantRec → GrantRec} (hf : ∀ x, (f x).e = x.e) :
    (s.updGrant k f).EpochsOk :=
  hs.mapGrants (f := fun x => if x.bay = k then f x else x) fun x => by
    simp only [apply_ite GrantRec.e, hf, ite_self]

/-- A new epoch is at least every epoch before it (R94). -/
theorem State.EpochsOk.takeEpoch (hs : s.EpochsOk) (f : Nat → Bool) : (s.takeEpoch f).EpochsOk := by
  obtain ⟨next, greatest⟩ := nextEpoch_le hs.greatest
  refine ⟨greatest, hs.acknowledged.trans next, fun y hy => ?_⟩
  obtain ⟨x, hx, rfl⟩ := List.mem_map.1 hy
  split
  · exact le_rfl
  · exact (hs.issued x hx).trans next

theorem State.EpochsOk.returnGrants (hs : s.EpochsOk) : s.returnGrants.EpochsOk :=
  (hs.takeEpoch s.isInService).mapGrants
    (f := fun (x : GrantRec) => if s.isInService x.bay && decide (x.g ≠ x.a) then { x with mismatch := some s.tb.ms } else x)
    fun x => by split <;> rfl

theorem State.EpochsOk.arrive (hs : s.EpochsOk) (p : Port) : (s.arrive p).EpochsOk := by
  have present : ∀ t : State, t.gt = s.gt → (t.onReturn p).EpochsOk := fun t h => by
    have ht := hs.of_gt h
    cases p with
    | network =>
      unfold State.onReturn
      dsimp only
      split
      · exact ht.returnGrants
      · exact ht
    | till => exact ht.of_gt
    | energy => exact ht
  unfold State.arrive State.frameValid
  dsimp only
  split
  · exact hs.of_gt
  · exact present _ rfl

theorem State.EpochsOk.lowerByReport (hs : s.EpochsOk) (k n : Nat) : (s.lowerByReport k n).EpochsOk := by
  unfold State.lowerByReport
  split
  · exact (hs.updGrant k fun x => x.move_e _ _ _).takeEpoch _
  · exact hs

theorem State.EpochsOk.outGrant (hs : s.EpochsOk) (k : Nat) : (s.outGrant k).EpochsOk := by
  have cleared : (s.updGrant k GrantRec.clear).EpochsOk := hs.updGrant k fun _ => rfl
  unfold State.outGrant
  dsimp only
  split
  · exact cleared
  · exact cleared.takeEpoch _

theorem State.EpochsOk.lapseTreatment (hs : s.EpochsOk) : s.lapseTreatment.EpochsOk :=
  State.EpochsOk.mapGrants (s := s.mapBays (BayRec.lapse s.tb.monoMin)) hs.of_gt fun x => by split <;> rfl

/-! ### The round (R95, R96) -/

theorem State.EpochsOk.raiseOne (hs : s.EpochsOk) (l : List (Nat × Nat)) (cb k : Nat) : (s.raiseOne l cb k).EpochsOk := by
  unfold State.raiseOne
  split
  · exact hs
  · dsimp only
    split
    · split
      · exact hs.updGrant k fun x => x.move_e _ _ _
      · exact hs
    · exact hs

theorem State.EpochsOk.issuePasses (hs : s.EpochsOk) (l : List (Nat × Nat)) (cb : Nat) : (s.issuePasses l cb).EpochsOk := by
  have raised (ks : List Nat) {s : State} (hs : s.EpochsOk) : (ks.foldl (State.raiseOne l cb) s).EpochsOk := by
    induction ks generalizing s with
    | nil => exact hs
    | cons k ks ih => exact ih (hs.raiseOne l cb k)
  exact raised _ (hs.mapGrants (reduceGrant_e _ l))

theorem State.EpochsOk.issueTargets (hs : s.EpochsOk) (l : List (Nat × Nat)) (cb : Nat) : (s.issueTargets l cb).EpochsOk := by
  have marked := (hs.issuePasses l cb).mapGrants (f := markDeferred l) fun _ => rfl
  unfold State.issueTargets
  dsimp only
  split
  · exact marked.takeEpoch _
  · exact marked

theorem State.EpochsOk.tick (hs : s.EpochsOk) : s.tick.EpochsOk := by
  obtain ⟨q, hq, -, -, -, -, -, grants, -⟩ := s.prepared_keeps
  have prepared : q.EpochsOk := hs.of_gt grants
  have round : q.round.EpochsOk := by
    cases present : q.isPresent .network with
    | true => exact (prepared.issueTargets _ _).of_gt (q.round_present present).1
    | false => exact prepared.of_gt (q.round_absent present).1
  have taken : s.tick = q.round.scheduleNext := by rw [← hq]; rfl
  rw [taken]
  exact round.of_gt

/-! ### The law -/

theorem epochsOk_law : GrantLaw (fun _ => True) State.EpochsOk where
  arrive_context _ _ h := h
  entry_context _ _ _ h := h
  steady h hs := hs.of_gt h.gt
  arrive s p hs := hs.arrive p
  refresh s b x _ _ hs := by
    have refreshed : (s.updBay x.bay (BayRec.refresh s.tb.ms x)).EpochsOk := hs.of_gt
    unfold State.refreshBay
    dsimp only
    split
    · exact refreshed.lowerByReport _ _
    · exact refreshed
  outGrant s t k h hs := (hs.of_gt h.gt).outGrant k
  acknowledge s e he hs := ⟨hs.greatest, he, (hs.mapGrants (ackGrant_e _ e)).issued⟩
  expireOverdue s k hs := by
    unfold State.expireOverdue
    split
    · exact hs.updGrant k fun _ => rfl
    · exact hs
  lapse s _ hs := by
    have lapsed : (s.lapsePort .network).EpochsOk := hs.of_gt
    split
    · exact lapsed.lapseTreatment
    · exact lapsed
  takeConfig s cfg _ hs := hs.of_gt
  commit s _ _ _ := by
    have zero : s.zeroEpochs.EpochsOk := ⟨Nat.zero_le _, le_rfl, fun y hy => by
      obtain ⟨x, _, rfl⟩ := List.mem_map.1 hy
      exact le_rfl⟩
    have treated : s.commitBlocks.EpochsOk := State.EpochsOk.lapseTreatment zero.of_gt
    have lapses {s : State} (p : Port) (hs : s.EpochsOk) : (s.lapsePresent p).EpochsOk := by
      obtain ⟨sp, h⟩ := s.lapsePresent_frame p
      rw [h]
      exact hs.of_gt
    exact lapses .energy (lapses .till (lapses .network treated))
  configure s hs := by
    obtain ⟨dg, sp, h⟩ := s.configureCut_frame
    unfold State.configure
    rw [h]
    exact State.EpochsOk.of_gt (s := s.mapGrants GrantRec.clear) (hs.mapGrants fun _ => rfl)
  tick s _ _ hs := hs.tick
  powerUp := State.powerUp_epochsOk
  restart s straps _ hs := by
    have restored : (s.restore straps).EpochsOk :=
      State.EpochsOk.of_gt (s := s.mapGrants GrantRec.restart) (hs.mapGrants fun _ => rfl)
    unfold State.restart
    dsimp only
    split
    · exact restored.lapseTreatment
    · exact restored

/-- Settles O56: the order of the epochs is a law of the Grant Table alone. -/
theorem stepKeepsEpochOrder : Obligations.StepKeepsEpochOrder :=
  fun _ _ hs => epochsOk_law.step (fun _ => trivial) hs

end Sys2Proof.Machine
end

section
/-! The grant record of a bay after a change of the Grant Table, and what a move makes of it (R93, R100). -/

namespace Sys2Proof.Machine

variable {s t : State}

/-! ### The record of a bay -/

theorem State.grant_of_mem (distinct : (s.gt.grants.map (·.bay)).Nodup) {x : GrantRec} (hx : x ∈ s.gt.grants) :
    s.grant x.bay = x := by
  rw [State.grant, find?_keyed distinct hx]
  rfl

theorem State.grant_mem {k : Nat} (hk : k ∈ s.gt.grants.map (·.bay)) : s.grant k ∈ s.gt.grants ∧ (s.grant k).bay = k := by
  obtain ⟨y, hy, rfl⟩ := List.mem_map.1 hk
  unfold State.grant
  cases h : s.gt.grants.find? fun x => x.bay == y.bay with
  | none => simpa using List.find?_eq_none.1 h y hy
  | some x => exact ⟨List.mem_of_find?_eq_some h, by simpa using List.find?_some h⟩

/-- A change of every record changes the record of a bay, where it has one. -/
theorem State.grant_of_map_or {f : GrantRec → GrantRec} (hf : ∀ x, (f x).bay = x.bay)
    (grants : t.gt.grants = s.gt.grants.map f) (k : Nat) :
    t.grant k = f (s.grant k) ∨ (t.grant k = GrantRec.fresh k ∧ k ∉ s.gt.grants.map (·.bay)) := by
  have found : (t.gt.grants.find? fun x => x.bay == k) = (s.gt.grants.find? fun x => x.bay == k).map f := by
    simp only [grants, List.find?_map, Function.comp_def, hf]
  unfold State.grant
  rw [found]
  cases h : s.gt.grants.find? fun x => x.bay == k with
  | none => exact .inr ⟨rfl, by simpa using h⟩
  | some x => exact .inl rfl

theorem State.grant_of_map {f : GrantRec → GrantRec} (hf : ∀ x, (f x).bay = x.bay)
    (grants : t.gt.grants = s.gt.grants.map f) {k : Nat} (hk : k ∈ s.gt.grants.map (·.bay)) : t.grant k = f (s.grant k) :=
  (State.grant_of_map_or hf grants k).resolve_right fun h => h.2 hk

/-- The tables have one grant record for each bay record. -/
theorem State.TablesOk.grant_bays (h : s.TablesOk) : s.gt.grants.map (·.bay) = s.bt.bays.map (·.number) :=
  h.grants.trans h.bays.symm

theorem State.TablesOk.grants_distinct (h : s.TablesOk) : (s.gt.grants.map (·.bay)).Nodup :=
  h.grants ▸ List.nodup_range'

theorem State.TablesOk.bays_distinct (h : s.TablesOk) : (s.bt.bays.map (·.number)).Nodup :=
  h.bays ▸ List.nodup_range'

/-! ### A moved record (R100) -/

@[simp] theorem GrantRec.move_g (now : Word) (g a : Nat) (x : GrantRec) : (x.move now g a).g = g := by
  unfold GrantRec.move
  split
  · rfl
  · split <;> rfl

@[simp] theorem GrantRec.move_a (now : Word) (g a : Nat) (x : GrantRec) : (x.move now g a).a = a := by
  unfold GrantRec.move
  split
  · rfl
  · split <;> rfl

theorem GrantRec.move_deferred (now : Word) (g a : Nat) (x : GrantRec) : (x.move now g a).deferred = x.deferred := by
  unfold GrantRec.move
  split
  · rfl
  · split <;> rfl

/-- A record whose issued grant is to be n: moved there, or as it is when it has that grant (R95). -/
def GrantRec.reissue (now : Word) (n : Nat) (x : GrantRec) : GrantRec :=
  if n = x.g then x else x.move now n x.a

variable (now : Word) {n m : Nat} {x : GrantRec}

theorem GrantRec.reissue_self (x : GrantRec) : x.reissue now x.g = x :=
  if_pos rfl

theorem GrantRec.reissue_of_ne (h : n ≠ x.g) : x.reissue now n = x.move now n x.a :=
  if_neg h

@[simp] theorem GrantRec.reissue_g (n : Nat) (x : GrantRec) : (x.reissue now n).g = n := by
  unfold GrantRec.reissue
  split
  · next h => exact h.symm
  · exact x.move_g _ _ _

@[simp] theorem GrantRec.reissue_a (n : Nat) (x : GrantRec) : (x.reissue now n).a = x.a := by
  unfold GrantRec.reissue
  split
  · rfl
  · exact x.move_a _ _ _

@[simp] theorem GrantRec.reissue_e (n : Nat) (x : GrantRec) : (x.reissue now n).e = x.e := by
  unfold GrantRec.reissue
  split
  · rfl
  · exact x.move_e _ _ _

@[simp] theorem GrantRec.reissue_bay (n : Nat) (x : GrantRec) : (x.reissue now n).bay = x.bay := by
  unfold GrantRec.reissue
  split
  · rfl
  · exact x.move_bay _ _ _

/-- A grant that comes to equal the acknowledged one ends the mismatch timing and the overdue mark (R100). -/
theorem GrantRec.reissue_met (h : n ≠ x.g) (ha : n = x.a) :
    (x.reissue now n).mismatch = none ∧ (x.reissue now n).overdue = false := by
  rw [GrantRec.reissue_of_ne now h, GrantRec.move, if_pos ha]
  exact ⟨rfl, rfl⟩

/-- A grant that comes to differ from the acknowledged one starts the mismatch timing, or keeps it (R100). -/
theorem GrantRec.reissue_unmet (h : n ≠ x.g) (ha : n ≠ x.a) : (x.reissue now n).overdue = x.overdue ∧
    (x.reissue now n).mismatch = if x.g = x.a then some now else x.mismatch := by
  rw [GrantRec.reissue_of_ne now h, GrantRec.move, if_neg ha]
  split
  · exact ⟨rfl, rfl⟩
  · exact ⟨rfl, rfl⟩

/-- A record that is moved twice, and not by way of its acknowledged grant, is as if moved once. -/
theorem GrantRec.reissue_reissue (hm : m ≠ x.g) (hn : n = x.g ∨ n ≠ x.a) :
    (x.reissue now n).reissue now m = x.reissue now m := by
  by_cases first : n = x.g
  · rw [first, GrantRec.reissue_self]
  by_cases same : m = n
  · rw [same]
    have := (x.reissue now n).reissue_self now
    rwa [GrantRec.reissue_g] at this
  · have ha := hn.resolve_left first
    rw [GrantRec.reissue_of_ne now (by rwa [GrantRec.reissue_g]), GrantRec.reissue_a, GrantRec.reissue_of_ne now first,
      GrantRec.reissue_of_ne now hm]
    by_cases met : m = x.a
    · simp only [GrantRec.move, if_neg ha, if_pos met]
      split <;> rfl
    · by_cases equal : x.g = x.a <;> simp [GrantRec.move, ha, met, equal]

end Sys2Proof.Machine
end

section
/-! The committed sum as grants are raised, and one raise of the second pass of an issue (R93, R95). -/

namespace Sys2Proof.Machine

variable {s t : State}

/-! ### The committed sum (R93) -/

/-- The committed values of the in-service bays beside one bay (R95). -/
def State.othersCommitted (s : State) (k : Nat) : Nat :=
  total ((s.inServiceBays.filter fun b => decide (b.number ≠ k)).map fun b => s.committed b.number)

theorem State.isInService_iff {k : Nat} : s.isInService k = true ↔ ∃ b ∈ s.inServiceBays, b.number = k := by
  simp [State.isInService]

/-- The committed sum is an in-service bay's committed value and what the other bays have committed. -/
theorem State.committedSum_inService (distinct : (s.bt.bays.map (·.number)).Nodup) {k : Nat} (h : s.isInService k = true) :
    s.committedSum = s.committed k + s.othersCommitted k := by
  obtain ⟨b, hb, rfl⟩ := State.isInService_iff.1 h
  have service : (s.inServiceBays.map (·.number)).Nodup := distinct.sublist (List.filter_sublist.map _)
  have parts := (List.filter_append_perm (fun c : BayRec => decide (c.number = b.number)) s.inServiceBays).map
    fun c => s.committed c.number
  have alone : s.inServiceBays.filter (fun c => decide (c.number = b.number)) = [b] := by
    refine List.perm_singleton.1 ((List.perm_ext_iff_of_nodup ?_ (List.nodup_singleton b)).2 fun c => ?_)
    · exact (List.Nodup.of_map _ service).filter _
    · rw [List.mem_filter, List.mem_singleton, decide_eq_true_iff]
      refine ⟨fun h => List.inj_on_of_nodup_map service h.1 hb h.2, ?_⟩
      rintro rfl
      exact ⟨hb, rfl⟩
  have sum := parts.sum_eq
  rw [alone, List.map_append, List.sum_append] at sum
  simp only [State.committedSum, State.othersCommitted, total_eq_sum, decide_not]
  simpa using sum.symm

theorem State.inServiceBays_of_eq (cfg : t.cfg = s.cfg) (bt : t.bt = s.bt) : t.inServiceBays = s.inServiceBays := by
  have service : t.inService = s.inService := by
    funext b
    simp only [State.inService, State.isKnown, cfg]
  rw [State.inServiceBays, State.inServiceBays, bt, service]

theorem State.isInService_of_eq (cfg : t.cfg = s.cfg) (bt : t.bt = s.bt) (k : Nat) : t.isInService k = s.isInService k := by
  rw [State.isInService, State.inServiceBays_of_eq cfg bt, State.isInService]

/-- Bays that each commit no less commit no less together. -/
theorem State.committedSum_mono (bays : t.inServiceBays = s.inServiceBays) (h : ∀ k, s.committed k ≤ t.committed k) :
    s.committedSum ≤ t.committedSum := by
  rw [State.committedSum, State.committedSum, bays]
  exact List.sum_le_sum fun b _ => h b.number

theorem State.committedSum_congr (bays : t.inServiceBays = s.inServiceBays)
    (h : ∀ k, s.isInService k = true → t.committed k = s.committed k) : t.committedSum = s.committedSum := by
  rw [State.committedSum, State.committedSum, bays]
  exact congrArg total (List.map_congr_left fun b hb => h _ (State.isInService_iff.2 ⟨b, hb, rfl⟩))

theorem State.othersCommitted_congr (bays : t.inServiceBays = s.inServiceBays) {k : Nat}
    (h : ∀ j ≠ k, t.committed j = s.committed j) : t.othersCommitted k = s.othersCommitted k := by
  rw [State.othersCommitted, State.othersCommitted, bays]
  exact congrArg total (List.map_congr_left fun b hb => h _ (of_decide_eq_true (List.mem_filter.1 hb).2))

/-! ### What a raise may issue (R95) -/

/-- The powers that a raise may issue. -/
def FitsRaise (bayMin : Nat) (room : Int) (g a t v : Nat) : Prop :=
  g < v ∧ v ≤ t ∧ bayMin ≤ v ∧ (v : Int) ≤ room ∧ (a : Int) ≤ room

section RaiseTo

variable {bayMin g a t v : Nat} {room : Int}

theorem raiseTo_eq : raiseTo bayMin room g a t =
    if (a : Int) ≤ room ∧ g < min t room.toNat ∧ bayMin ≤ min t room.toNat then some (min t room.toNat) else none := by
  unfold raiseTo
  split
  · next h => exact (if_neg fun h' => absurd h'.1 (Int.not_le.2 h)).symm
  · next h => simp only [Int.not_lt.1 h, true_and]

theorem FitsRaise.le (h : FitsRaise bayMin room g a t v) : (a : Int) ≤ room ∧ v ≤ min t room.toNat := by
  obtain ⟨-, target, -, fits, committed⟩ := h
  exact ⟨committed, by omega⟩

/-- A raise issues the greatest power that it may. -/
theorem raiseTo_eq_some_iff : raiseTo bayMin room g a t = some v ↔
    FitsRaise bayMin room g a t v ∧ ∀ w, FitsRaise bayMin room g a t w → w ≤ v := by
  rw [raiseTo_eq]
  constructor
  · intro h
    split at h
    · next ok =>
      cases h
      obtain ⟨committed, above, least⟩ := ok
      exact ⟨⟨above, Nat.min_le_left _ _, least, by omega, committed⟩, fun w hw => hw.le.2⟩
    · exact nomatch h
  · rintro ⟨fits, most⟩
    obtain ⟨committed, most'⟩ := fits.le
    obtain ⟨above, -, least, -, -⟩ := fits
    have top : FitsRaise bayMin room g a t (min t room.toNat) :=
      ⟨above.trans_le most', Nat.min_le_left _ _, least.trans most', by omega, committed⟩
    rw [if_pos ⟨committed, above.trans_le most', least.trans most'⟩, Nat.le_antisymm (most _ top) most']

/-- There is no raise exactly when no power fits. -/
theorem raiseTo_eq_none_iff : raiseTo bayMin room g a t = none ↔ ∀ v, ¬ FitsRaise bayMin room g a t v := by
  constructor
  · intro h v fits
    obtain ⟨committed, most⟩ := fits.le
    obtain ⟨above, -, least, -, -⟩ := fits
    rw [raiseTo_eq, if_pos ⟨committed, above.trans_le most, least.trans most⟩] at h
    exact nomatch h
  · intro none
    rw [raiseTo_eq, if_neg]
    rintro ⟨committed, above, least⟩
    exact none _ ⟨above, Nat.min_le_left _ _, least, by omega, committed⟩

/-- A raise reaches the target, or all the room. -/
theorem raiseTo_reaches (h : raiseTo bayMin room g a t = some v) : v = t ∨ (v : Int) = room := by
  rw [raiseTo_eq] at h
  split at h
  · cases h
    omega
  · exact nomatch h

end RaiseTo

/-! ### One raise of the second pass (R95) -/

variable (l : List (Nat × Nat)) (cb : Nat)

/-- What the budget leaves a bay beside the other bays' committed values (R95). -/
def State.room (s : State) (cb k : Nat) : Int :=
  (cb : Int) - ((s.committedSum : Int) - (s.committed k : Int))

/-- A bay without a target above its grant is left in the second pass. -/
theorem State.raiseOne_idle {k : Nat} (h : ∀ v, targetOf l k = some v → v ≤ (s.grant k).g) : s.raiseOne l cb k = s := by
  unfold State.raiseOne
  split
  · rfl
  · next v hv => exact if_neg (Nat.not_lt.2 (h v hv))

/-- A bay with a target above its grant is raised in the second pass, if a power fits. -/
theorem State.raiseOne_above {k v : Nat} (hv : targetOf l k = some v) (above : (s.grant k).g < v) : s.raiseOne l cb k =
    (raiseTo s.cfg.bayMin (s.room cb k) (s.grant k).g (s.grant k).a v).elim s fun n =>
      s.updGrant k fun x => x.move s.tb.ms n x.a := by
  unfold State.raiseOne State.room
  rw [hv]
  dsimp only
  rw [if_pos above]
  split
  · next n hn => rw [hn]; rfl
  · next hn => rw [hn]; rfl

/-- In the second pass a bay is left as it is, or raised towards its target. -/
theorem State.raiseOne_cases (k : Nat) : s.raiseOne l cb k = s ∨
    ∃ t v, targetOf l k = some t ∧ raiseTo s.cfg.bayMin (s.room cb k) (s.grant k).g (s.grant k).a t = some v ∧
      s.raiseOne l cb k = s.updGrant k fun x => x.move s.tb.ms v x.a := by
  by_cases h : ∃ t, targetOf l k = some t ∧ (s.grant k).g < t
  · obtain ⟨t, ht, above⟩ := h
    have raised := s.raiseOne_above l cb ht above
    cases hv : raiseTo s.cfg.bayMin (s.room cb k) (s.grant k).g (s.grant k).a t with
    | none => exact .inl (by rw [raised, hv]; rfl)
    | some v => exact .inr ⟨t, v, ht, hv, by rw [raised, hv]; rfl⟩
  · exact .inl (s.raiseOne_idle l cb fun t ht => Nat.not_lt.1 fun above => h ⟨t, ht, above⟩)

theorem State.updGrant_grant_same (s : State) {k : Nat} {f : GrantRec → GrantRec} (hf : ∀ x, (f x).bay = x.bay)
    (hk : k ∈ s.gt.grants.map (·.bay)) : (s.updGrant k f).grant k = f (s.grant k) := by
  rw [State.grant_of_map (f := fun x => if x.bay = k then f x else x) (fun x => by split <;> simp [hf]) rfl hk]
  exact if_pos (s.grant_mem hk).2

theorem State.updGrant_grant_other (s : State) {j k : Nat} {f : GrantRec → GrantRec} (hf : ∀ x, (f x).bay = x.bay)
    (h : j ≠ k) : (s.updGrant k f).grant j = s.grant j := by
  have found : (fun x : GrantRec => (if x.bay = k then f x else x).bay == j) = fun x => x.bay == j := by
    funext x
    split <;> simp [hf]
  simp only [State.grant, State.updGrant, List.find?_map, Function.comp_def, found]
  cases hx : s.gt.grants.find? fun x => x.bay == j with
  | none => rfl
  | some x =>
    have bay : x.bay = j := by simpa using List.find?_some hx
    exact if_neg (bay ▸ h)

theorem State.raiseOne_grant_other {j k : Nat} (h : j ≠ k) : (s.raiseOne l cb k).grant j = s.grant j := by
  rcases s.raiseOne_cases l cb k with same | ⟨t, v, -, -, raised⟩
  · rw [same]
  · rw [raised]
    exact s.updGrant_grant_other (fun x => x.move_bay _ _ _) h

/-- The issued grant of a bay after its turn in the second pass. -/
theorem State.raiseOne_grant_same {k v : Nat} (hk : k ∈ s.gt.grants.map (·.bay)) (hv : targetOf l k = some v)
    (above : (s.grant k).g < v) : ((s.raiseOne l cb k).grant k).g =
      (raiseTo s.cfg.bayMin (s.room cb k) (s.grant k).g (s.grant k).a v).getD (s.grant k).g := by
  rw [s.raiseOne_above l cb hv above]
  cases raiseTo s.cfg.bayMin (s.room cb k) (s.grant k).g (s.grant k).a v with
  | none => rfl
  | some n =>
    show ((s.updGrant k _).grant k).g = n
    rw [s.updGrant_grant_same (fun x => x.move_bay _ _ _) hk]
    exact GrantRec.move_g _ _ _ _

end Sys2Proof.Machine
end

section
/-! The two passes of an issue: each bay is lowered at once or raised in its turns, within the budget (R95). -/

namespace Sys2Proof.Machine

variable {s : State} (l : List (Nat × Nat)) (cb : Nat)

/-! ### The raises of the second pass -/

/-- A raise changes the grant records alone, and not which bays they are of. -/
theorem State.raiseOne_records (k : Nat) : ∃ grants, s.raiseOne l cb k = { s with gt := { s.gt with grants := grants } } ∧
    grants.map (·.bay) = s.gt.grants.map (·.bay) := by
  have bays := (s.raiseOne_alike l cb k).grants
  rcases s.raiseOne_cases l cb k with same | ⟨t, v, -, -, raised⟩
  · exact ⟨s.gt.grants, same, rfl⟩
  · rw [raised] at bays ⊢
    exact ⟨_, rfl, bays⟩

theorem State.raiseAll_records (ks : List Nat) : ∃ grants,
    ks.foldl (State.raiseOne l cb) s = { s with gt := { s.gt with grants := grants } } ∧
      grants.map (·.bay) = s.gt.grants.map (·.bay) := by
  induction ks generalizing s with
  | nil => exact ⟨s.gt.grants, rfl, rfl⟩
  | cons k ks ih =>
    obtain ⟨grants, first, bays⟩ := s.raiseOne_records l cb k
    obtain ⟨grants', rest, bays'⟩ := ih (s := s.raiseOne l cb k)
    refine ⟨grants', ?_, ?_⟩
    · rw [List.foldl_cons, rest, first]
    · rw [bays', first]
      exact bays

theorem State.raiseAll_grant_other {j : Nat} {ks : List Nat} (h : j ∉ ks) :
    (ks.foldl (State.raiseOne l cb) s).grant j = s.grant j := by
  induction ks generalizing s with
  | nil => rfl
  | cons k ks ih =>
    rw [List.foldl_cons, ih (fun hj => h (List.mem_cons_of_mem _ hj)),
      State.raiseOne_grant_other l cb (List.ne_of_not_mem_cons h)]

/-- What a raise of one bay does to the committed values and their sum (R93, R95): none falls, and the sum stays as it is or
within the budget. -/
theorem State.raiseOne_committed (tables : s.TablesOk) (k : Nat) :
    s.committedSum ≤ (s.raiseOne l cb k).committedSum ∧
      ((s.raiseOne l cb k).committedSum = s.committedSum ∨ (s.raiseOne l cb k).committedSum ≤ cb) := by
  rcases s.raiseOne_cases l cb k with same | ⟨t, v, -, hv, raised⟩
  · rw [same]
    exact ⟨le_rfl, .inl rfl⟩
  · have bays : (s.raiseOne l cb k).inServiceBays = s.inServiceBays := by
      rw [raised]
      exact State.inServiceBays_of_eq rfl rfl
    have other : ∀ j ≠ k, (s.raiseOne l cb k).committed j = s.committed j := fun j hj => by
      rw [State.committed, State.raiseOne_grant_other l cb hj, State.committed]
    obtain ⟨⟨above, -, -, fits, held⟩, -⟩ := raiseTo_eq_some_iff.1 hv
    cases hin : s.isInService k with
    | false =>
      have sum := State.committedSum_congr bays fun j hj => other j fun e => by rw [e, hin] at hj; exact nomatch hj
      exact ⟨sum.ge, .inl sum⟩
    | true =>
      obtain ⟨b, hb, number⟩ := State.isInService_iff.1 hin
      have row : k ∈ s.gt.grants.map (·.bay) := by
        rw [tables.grant_bays, ← number]
        exact List.mem_map_of_mem (State.mem_inServiceBays.1 hb).1
      have own : (s.raiseOne l cb k).committed k = max v (s.grant k).a := by
        rw [State.committed, raised, s.updGrant_grant_same (fun x => x.move_bay _ _ _) row, GrantRec.move_g, GrantRec.move_a]
      have before := State.committedSum_inService tables.bays_distinct hin
      have after := State.committedSum_inService (tables.of_alike (s.raiseOne_alike l cb k)).bays_distinct
        (k := k) (by rw [State.isInService, bays]; exact hin)
      rw [own, State.othersCommitted_congr bays other] at after
      rw [State.room, State.committed] at fits held
      rw [State.committed] at before
      omega

/-- A bay's record in the second pass, from the record x that the first pass left: the grant has not fallen, and where it has
risen it is at least the bay min and within the target. Its rise ended at the target, or above the acknowledged grant, or at it
with the whole budget committed. -/
structure State.RaisedFrom (x : GrantRec) (w : State) : Prop where
  record : w.grant x.bay = x.reissue w.tb.ms (w.grant x.bay).g
  least : x.g ≤ (w.grant x.bay).g
  risen : x.g < (w.grant x.bay).g → w.cfg.bayMin ≤ (w.grant x.bay).g ∧ ∃ t, targetOf l x.bay = some t ∧
    (w.grant x.bay).g ≤ t ∧ ((w.grant x.bay).g = t ∨ x.a < (w.grant x.bay).g ∨ ((w.grant x.bay).g = x.a ∧ cb ≤ w.committedSum))
  fits : x.g < (w.grant x.bay).g → w.isInService x.bay = true → w.committedSum ≤ cb

theorem State.RaisedFrom.start {x : GrantRec} (h : s.grant x.bay = x) : s.RaisedFrom l cb x where
  record := by rw [h, GrantRec.reissue_self]
  least := by rw [h]
  risen above := absurd above (by rw [h]; exact lt_irrefl _)
  fits above := absurd above (by rw [h]; exact lt_irrefl _)

theorem State.RaisedFrom.raiseOne {x : GrantRec} (h : s.RaisedFrom l cb x) (tables : s.TablesOk)
    (row : x.bay ∈ s.gt.grants.map (·.bay)) (k : Nat) : (s.raiseOne l cb k).RaisedFrom l cb x := by
  obtain ⟨rises, within⟩ := s.raiseOne_committed l cb tables k
  obtain ⟨gt, frame⟩ := s.raiseOne_frame l cb k
  have time : (s.raiseOne l cb k).tb.ms = s.tb.ms := by rw [frame]
  have cfg : (s.raiseOne l cb k).cfg = s.cfg := by rw [frame]
  have service : (s.raiseOne l cb k).isInService x.bay = s.isInService x.bay := by
    rw [frame]
    exact State.isInService_of_eq rfl rfl _
  have kept (same : (s.raiseOne l cb k).grant x.bay = s.grant x.bay) : (s.raiseOne l cb k).RaisedFrom l cb x := {
    record := by rw [same, time]; exact h.record
    least := by rw [same]; exact h.least
    risen := by
      rw [same, cfg]
      intro above
      obtain ⟨least, t, ht, le, ends⟩ := h.risen above
      exact ⟨least, t, ht, le, ends.imp_right (Or.imp_right (And.imp_right fun full => full.trans rises))⟩
    fits := by
      rw [same, service]
      intro above inside
      have := h.fits above inside
      omega }
  by_cases hk : x.bay = k
  · subst hk
    rcases s.raiseOne_cases l cb x.bay with same | ⟨t, v, ht, hv, raised⟩
    · exact kept (by rw [same])
    obtain ⟨⟨above, target, least, fits, held⟩, -⟩ := raiseTo_eq_some_iff.1 hv
    have reaches := raiseTo_reaches hv
    have acknowledged : (s.grant x.bay).a = x.a := by rw [h.record, GrantRec.reissue_a]
    have low := h.least
    rw [acknowledged] at hv held
    -- a bay at its acknowledged grant with the whole budget committed finds no more room
    have free : (s.grant x.bay).g = x.g ∨ (s.grant x.bay).g ≠ x.a := by
      by_contra stuck
      obtain ⟨risen, met⟩ := not_or.1 stuck
      rw [not_ne_iff] at met
      obtain ⟨-, t', ht', -, ends⟩ := h.risen (Nat.lt_of_le_of_ne low (Ne.symm risen))
      cases ht.symm.trans ht'
      rw [State.room, State.committed, acknowledged] at fits
      omega
    have grant : (s.raiseOne l cb x.bay).grant x.bay = x.reissue s.tb.ms v := by
      rw [raised, s.updGrant_grant_same (fun y => y.move_bay _ _ _) row, ← GrantRec.reissue_of_ne _ above.ne', h.record]
      exact x.reissue_reissue _ (by omega) free
    have full : (v : Int) = s.room cb x.bay → v = x.a → cb ≤ s.committedSum := fun top met => by
      rw [State.room, State.committed, acknowledged] at top
      omega
    exact {
      record := by rw [grant, GrantRec.reissue_g, time]
      least := by rw [grant, GrantRec.reissue_g]; omega
      risen := by
        rw [grant, GrantRec.reissue_g, cfg]
        refine fun _ => ⟨least, t, ht, target, ?_⟩
        rcases reaches with reached | top
        · exact .inl reached
        · by_cases met : v = x.a
          · exact .inr (.inr ⟨met, (full top met).trans rises⟩)
          · exact .inr (.inl (by omega))
      fits := by
        intro _ _
        rw [State.room, State.committed, acknowledged] at fits held
        omega }
  · exact kept (s.raiseOne_grant_other l cb hk)

theorem State.RaisedFrom.raiseAll {x : GrantRec} (h : s.RaisedFrom l cb x) (tables : s.TablesOk)
    (row : x.bay ∈ s.gt.grants.map (·.bay)) (ks : List Nat) : (ks.foldl (State.raiseOne l cb) s).RaisedFrom l cb x := by
  induction ks generalizing s with
  | nil => exact h
  | cons k ks ih =>
    have alike := s.raiseOne_alike l cb k
    exact ih (h.raiseOne l cb tables row k) (tables.of_alike alike) (by rw [alike.grants]; exact row)

/-! ### The first pass -/

/-- The grant that the first pass leaves of an issued grant: no more than the target (R95). -/
def reducedGrant (k g : Nat) : Nat :=
  min g ((targetOf l k).getD g)

theorem reduceGrant_eq (now : Word) (x : GrantRec) : reduceGrant now l x = x.reissue now (reducedGrant l x.bay x.g) := by
  unfold reduceGrant reducedGrant
  cases targetOf l x.bay with
  | none =>
    rw [Option.getD_none, Nat.min_self]
    exact (x.reissue_self now).symm
  | some t =>
    rw [Option.getD_some]
    dsimp only
    split
    · next lower => rw [Nat.min_eq_right lower.le, GrantRec.reissue_of_ne now lower.ne]
    · next h => rw [Nat.min_eq_left (Nat.not_lt.1 h), GrantRec.reissue_self]

/-- The state after the first pass (R95). -/
def State.reduced (s : State) : State :=
  s.mapGrants (reduceGrant s.tb.ms l)

theorem State.reduced_alike (s : State) : s.Alike (s.reduced l) :=
  s.mapGrants_alike _ (reduceGrant_bay _ _)

theorem State.reduced_grant {k : Nat} (hk : k ∈ s.gt.grants.map (·.bay)) :
    (s.reduced l).grant k = (s.grant k).reissue s.tb.ms (reducedGrant l k (s.grant k).g) := by
  rw [State.grant_of_map (s := s) (reduceGrant_bay s.tb.ms l) rfl hk, reduceGrant_eq, (s.grant_mem hk).2]

/-! ### Both passes -/

theorem State.issuePasses_eq : s.issuePasses l cb = s.admissionBays.foldl (State.raiseOne l cb) (s.reduced l) := rfl

theorem State.issuePasses_records : ∃ grants, s.issuePasses l cb = { s with gt := { s.gt with grants := grants } } ∧
    grants.map (·.bay) = s.gt.grants.map (·.bay) := by
  obtain ⟨grants, h, bays⟩ := (s.reduced l).raiseAll_records l cb s.admissionBays
  exact ⟨grants, h, bays.trans (s.reduced_alike l).grants⟩

section Bay

variable (tables : s.TablesOk) {k : Nat} (hk : k ∈ s.gt.grants.map (·.bay))
include tables hk

theorem State.issuePasses_raisedFrom : (s.issuePasses l cb).RaisedFrom l cb ((s.reduced l).grant k) := by
  have alike := s.reduced_alike l
  have bay : ((s.reduced l).grant k).bay = k := by
    rw [s.reduced_grant l hk, GrantRec.reissue_bay, (s.grant_mem hk).2]
  refine State.RaisedFrom.raiseAll l cb (.start l cb (by rw [bay])) (tables.of_alike alike) ?_ _
  rw [bay, alike.grants]
  exact hk

/-- A bay that is not lowered keeps its record up to the second pass. -/
theorem State.issuePasses_raised (h : ∀ v, targetOf l k = some v → (s.grant k).g ≤ v) :
    (s.issuePasses l cb).RaisedFrom l cb (s.grant k) := by
  have kept : reducedGrant l k (s.grant k).g = (s.grant k).g := by
    unfold reducedGrant
    cases ht : targetOf l k with
    | none => exact Nat.min_self _
    | some t => exact Nat.min_eq_left (h t ht)
  have := s.issuePasses_raisedFrom l cb tables hk
  rwa [s.reduced_grant l hk, kept, GrantRec.reissue_self] at this

/-- A bay that is lowered to its target is not raised (R95). -/
theorem State.issuePasses_lowered {v : Nat} (hv : targetOf l k = some v) (lower : v < (s.grant k).g) :
    (s.issuePasses l cb).grant k = (s.grant k).reissue s.tb.ms v := by
  have target : reducedGrant l k (s.grant k).g = v := by
    rw [reducedGrant, hv]
    exact Nat.min_eq_right lower.le
  obtain ⟨grants, frame, -⟩ := s.issuePasses_records l cb
  obtain ⟨record, least, risen, -⟩ := s.issuePasses_raisedFrom l cb tables hk
  rw [s.reduced_grant l hk, target] at record least risen
  rw [GrantRec.reissue_bay, (s.grant_mem hk).2] at record least risen
  rw [GrantRec.reissue_g] at least risen
  have stays : ((s.issuePasses l cb).grant k).g = v := by
    by_contra ne
    obtain ⟨-, t, ht, le, -⟩ := risen (Nat.lt_of_le_of_ne least (Ne.symm ne))
    cases hv.symm.trans ht
    exact ne (Nat.le_antisymm le least)
  have again := ((s.grant k).reissue s.tb.ms v).reissue_self (s.issuePasses l cb).tb.ms
  rw [GrantRec.reissue_g] at again
  rw [record, stays, again]

/-- The passes move a bay's issued grant and nothing else of its record but the marks of the move (R95, R100). -/
theorem State.issuePasses_record :
    (s.issuePasses l cb).grant k = (s.grant k).reissue s.tb.ms ((s.issuePasses l cb).grant k).g := by
  by_cases h : ∃ v, targetOf l k = some v ∧ v < (s.grant k).g
  · obtain ⟨v, hv, lower⟩ := h
    rw [s.issuePasses_lowered l cb tables hk hv lower, GrantRec.reissue_g]
  · obtain ⟨grants, frame, -⟩ := s.issuePasses_records l cb
    have raised := (s.issuePasses_raised l cb tables hk fun v hv => Nat.not_lt.1 fun lower => h ⟨v, hv, lower⟩).record
    rw [(s.grant_mem hk).2] at raised
    rwa [show (s.issuePasses l cb).tb = s.tb by rw [frame]] at raised

theorem State.issuePasses_bay : ((s.issuePasses l cb).grant k).bay = k := by
  rw [s.issuePasses_record l cb tables hk, GrantRec.reissue_bay, (s.grant_mem hk).2]

end Bay

end Sys2Proof.Machine
end

section
/-! The issue of a round: its passes, its marks and its epoch (R94 to R96, R100). -/

namespace Sys2Proof.Machine

variable {s : State} (l : List (Nat × Nat)) (cb : Nat)

/-! ### The epoch of an issue (R94) -/

/-- An issue has changed an issued grant (R94). -/
def State.Reissues (s : State) : Prop :=
  ∃ x ∈ s.gt.grants, ((s.issuePasses l cb).grant x.bay).g ≠ x.g

theorem markDeferred_deferred (x : GrantRec) :
    (markDeferred l x).deferred = (targetOf l x.bay).any fun t => decide (x.g < t) := by
  unfold markDeferred
  cases targetOf l x.bay <;> rfl

/-- The passes with the DEFERRED marks (R95, R96). -/
def State.marked (s : State) : State :=
  (s.issuePasses l cb).mapGrants (markDeferred l)

theorem State.marked_records : ∃ grants, s.marked l cb = { s with gt := { s.gt with grants := grants } } ∧
    grants.map (·.bay) = s.gt.grants.map (·.bay) := by
  obtain ⟨grants, h, bays⟩ := s.issuePasses_records l cb
  refine ⟨grants.map (markDeferred l), by rw [State.marked, h]; rfl, ?_⟩
  rw [List.map_map]
  exact bays

theorem State.marked_grant {k : Nat} (hk : k ∈ s.gt.grants.map (·.bay)) :
    (s.marked l cb).grant k = markDeferred l ((s.issuePasses l cb).grant k) := by
  obtain ⟨grants, h, bays⟩ := s.issuePasses_records l cb
  exact State.grant_of_map (s := s.issuePasses l cb) (f := markDeferred l) (fun _ => rfl) rfl (by rw [h]; exact bays ▸ hk)

theorem State.marked_reissued {k : Nat} (hk : k ∈ s.gt.grants.map (·.bay)) :
    reissued s.gt.grants (s.marked l cb).gt.grants k = decide (((s.issuePasses l cb).grant k).g ≠ (s.grant k).g) := by
  show decide (((s.marked l cb).grant k).g ≠ (s.grant k).g) = _
  rw [s.marked_grant l cb hk]
  rfl

/-- An epoch is taken exactly when an issued grant has changed (R94). -/
theorem State.issueTargets_cases (tables : s.TablesOk) : s.Reissues l cb ∧ s.issueTargets l cb =
      (s.marked l cb).takeEpoch (reissued s.gt.grants (s.marked l cb).gt.grants) ∨
    ¬ s.Reissues l cb ∧ s.issueTargets l cb = s.marked l cb := by
  have reissues : ((s.marked l cb).gt.grants.any fun y => reissued s.gt.grants (s.marked l cb).gt.grants y.bay) = true ↔
      s.Reissues l cb := by
    obtain ⟨grants, h, bays⟩ := s.marked_records l cb
    have rows : (s.marked l cb).gt.grants.map (·.bay) = s.gt.grants.map (·.bay) := by rw [h]; exact bays
    calc _ ↔ ∃ k ∈ (s.marked l cb).gt.grants.map (·.bay), reissued s.gt.grants (s.marked l cb).gt.grants k = true := by
          simp
      _ ↔ ∃ k ∈ s.gt.grants.map (·.bay), ((s.issuePasses l cb).grant k).g ≠ (s.grant k).g := by
          rw [rows]
          refine exists_congr fun k => and_congr_right fun hk => ?_
          rw [s.marked_reissued l cb hk, decide_eq_true_iff]
      _ ↔ _ := by
          constructor
          · rintro ⟨k, hk, changed⟩
            obtain ⟨mem, bay⟩ := s.grant_mem hk
            exact ⟨_, mem, by rwa [bay]⟩
          · rintro ⟨x, hx, changed⟩
            exact ⟨x.bay, List.mem_map_of_mem hx, by rwa [State.grant_of_mem tables.grants_distinct hx]⟩
  rw [s.issueTargets_eq l cb rfl, ← reissues]
  by_cases h : ((s.marked l cb).gt.grants.any fun y => reissued s.gt.grants (s.marked l cb).gt.grants y.bay) = true
  · exact .inl ⟨h, if_pos h⟩
  · exact .inr ⟨h, if_neg h⟩

/-- The record of a bay after an issue: what the passes made of it, with the mark of R96 and the epoch of R94. -/
theorem State.issueTargets_grant (tables : s.TablesOk) {k : Nat} (hk : k ∈ s.gt.grants.map (·.bay)) :
    (s.issueTargets l cb).grant k = { markDeferred l ((s.issuePasses l cb).grant k) with
      e := if ((s.issuePasses l cb).grant k).g = (s.grant k).g then (s.grant k).e else nextEpoch s.gt.eg } := by
  have epoch : ((s.issuePasses l cb).grant k).e = (s.grant k).e := by
    rw [s.issuePasses_record l cb tables hk, GrantRec.reissue_e]
  have bay : (markDeferred l ((s.issuePasses l cb).grant k)).bay = k := s.issuePasses_bay l cb tables hk
  obtain ⟨grants, records, bays⟩ := s.marked_records l cb
  rcases s.issueTargets_cases l cb tables with ⟨-, taken⟩ | ⟨none, kept⟩
  · have row : k ∈ (s.marked l cb).gt.grants.map (·.bay) := by rw [records]; exact bays ▸ hk
    rw [taken, State.grant_of_map (s := s.marked l cb)
      (f := fun (y : GrantRec) => if reissued s.gt.grants (s.marked l cb).gt.grants y.bay
        then { y with e := nextEpoch (s.marked l cb).gt.eg } else y) (fun y => by split <;> rfl) rfl row,
      (State.grant_mem row).2, s.marked_reissued l cb hk, s.marked_grant l cb hk,
      show (s.marked l cb).gt.eg = s.gt.eg by rw [records]]
    by_cases same : ((s.issuePasses l cb).grant k).g = (s.grant k).g
    · simp only [same, ne_eq, not_true, decide_false, Bool.false_eq_true, if_false, if_true, ← epoch]
      rfl
    · simp only [same, ne_eq, not_false_iff, decide_true, if_true, if_false, bay]
  · have same : ((s.issuePasses l cb).grant k).g = (s.grant k).g := by
      obtain ⟨mem, bay⟩ := s.grant_mem hk
      by_contra changed
      exact none ⟨s.grant k, mem, by rw [bay]; exact changed⟩
    rw [kept, s.marked_grant l cb hk, if_pos same, ← epoch]
    rfl

section Bay

variable (tables : s.TablesOk) {k : Nat} (hk : k ∈ s.gt.grants.map (·.bay))
include tables hk

theorem State.issueTargets_grant_g : ((s.issueTargets l cb).grant k).g = ((s.issuePasses l cb).grant k).g := by
  rw [s.issueTargets_grant l cb tables hk]
  rfl

theorem State.issueTargets_grant_a : ((s.issueTargets l cb).grant k).a = (s.grant k).a := by
  rw [s.issueTargets_grant l cb tables hk]
  show ((s.issuePasses l cb).grant k).a = _
  rw [s.issuePasses_record l cb tables hk, GrantRec.reissue_a]

/-- The mismatch timing and the overdue mark follow the grant (R100). -/
theorem State.issueTargets_grant_marks : ((s.issueTargets l cb).grant k).mismatch =
      ((s.grant k).reissue s.tb.ms ((s.issueTargets l cb).grant k).g).mismatch ∧
    ((s.issueTargets l cb).grant k).overdue =
      ((s.grant k).reissue s.tb.ms ((s.issueTargets l cb).grant k).g).overdue := by
  rw [s.issueTargets_grant_g l cb tables hk, ← s.issuePasses_record l cb tables hk, s.issueTargets_grant l cb tables hk]
  exact ⟨rfl, rfl⟩

theorem State.issueTargets_grant_e : ((s.issueTargets l cb).grant k).e =
    if ((s.issueTargets l cb).grant k).g = (s.grant k).g then (s.grant k).e else nextEpoch s.gt.eg := by
  rw [s.issueTargets_grant_g l cb tables hk, s.issueTargets_grant l cb tables hk]

/-- A target below the issued grant is issued at once (R95). -/
theorem State.issueTargets_lowers {v : Nat} (hv : targetOf l k = some v) (lower : v < (s.grant k).g) :
    ((s.issueTargets l cb).grant k).g = v := by
  rw [s.issueTargets_grant_g l cb tables hk, s.issuePasses_lowered l cb tables hk hv lower, GrantRec.reissue_g]

/-- A bay without a target keeps its issued grant, and is not DEFERRED (R95, R96). -/
theorem State.issueTargets_untargeted (hv : targetOf l k = none) : ((s.issueTargets l cb).grant k).g = (s.grant k).g ∧
    ((s.issueTargets l cb).grant k).deferred = false := by
  have bay := (s.grant_mem hk).2
  have raised := s.issuePasses_raised l cb tables hk fun v h => nomatch hv.symm.trans h
  have low := raised.least
  have risen := raised.risen
  rw [bay] at low risen
  constructor
  · rw [s.issueTargets_grant_g l cb tables hk]
    by_contra ne
    obtain ⟨-, t, ht, -⟩ := risen (Nat.lt_of_le_of_ne low (Ne.symm ne))
    exact nomatch hv.symm.trans ht
  · rw [s.issueTargets_grant l cb tables hk]
    show (markDeferred l _).deferred = false
    rw [markDeferred_deferred, s.issuePasses_bay l cb tables hk, hv]
    rfl

theorem State.issueTargets_deferred {v : Nat} (hv : targetOf l k = some v) :
    ((s.issueTargets l cb).grant k).deferred = decide (((s.issueTargets l cb).grant k).g < v) := by
  rw [s.issueTargets_grant_g l cb tables hk, s.issueTargets_grant l cb tables hk]
  show (markDeferred l _).deferred = _
  rw [markDeferred_deferred, s.issuePasses_bay l cb tables hk, hv]
  rfl

end Bay

/-- The issue commits what its passes have committed (R93). -/
theorem State.issueTargets_committedSum (tables : s.TablesOk) :
    (s.issueTargets l cb).committedSum = (s.issuePasses l cb).committedSum := by
  obtain ⟨gt, sp, frame⟩ := s.issueTargets_frame l cb
  obtain ⟨grants, frame', -⟩ := s.issuePasses_records l cb
  refine State.committedSum_congr ?_ fun k hk => ?_
  · rw [frame, frame']
    rfl
  · obtain ⟨b, hb, number⟩ := State.isInService_iff.1 hk
    have row : k ∈ s.gt.grants.map (·.bay) := by
      rw [tables.grant_bays, ← number]
      refine List.mem_map_of_mem ?_
      have := (State.mem_inServiceBays.1 hb).1
      rwa [frame'] at this
    rw [State.committed, State.committed, s.issueTargets_grant_g l cb tables row, s.issueTargets_grant_a l cb tables row,
      s.issuePasses_record l cb tables row, GrantRec.reissue_a, GrantRec.reissue_g]

/-- A target at or above the issued grant is not passed, and a rise is at least the bay min and within the budget (R95). -/
theorem State.issueTargets_raises (tables : s.TablesOk) {k v : Nat} (hk : k ∈ s.gt.grants.map (·.bay))
    (hv : targetOf l k = some v) (low : (s.grant k).g ≤ v) :
    (s.grant k).g ≤ ((s.issueTargets l cb).grant k).g ∧ ((s.issueTargets l cb).grant k).g ≤ v ∧
      (((s.issueTargets l cb).grant k).g ≠ (s.grant k).g → s.cfg.bayMin ≤ ((s.issueTargets l cb).grant k).g ∧
        (s.isInService k = true → (s.issueTargets l cb).committedSum ≤ cb)) := by
  obtain ⟨grants, frame, -⟩ := s.issuePasses_records l cb
  have raised := s.issuePasses_raised l cb tables hk fun w hw => Option.some.inj (hv.symm.trans hw) ▸ low
  obtain ⟨-, least, risen, fits⟩ := raised
  rw [(s.grant_mem hk).2] at least risen fits
  rw [s.issueTargets_grant_g l cb tables hk, s.issueTargets_committedSum l cb tables]
  have service : (s.issuePasses l cb).isInService k = s.isInService k := by
    rw [frame]
    exact State.isInService_of_eq rfl rfl k
  rw [service] at fits
  rw [show (s.issuePasses l cb).cfg = s.cfg by rw [frame]] at risen
  refine ⟨least, ?_, fun ne => ?_⟩
  · rcases least.eq_or_lt with same | above
    · exact same ▸ low
    · obtain ⟨-, t, ht, le, -⟩ := risen above
      cases hv.symm.trans ht
      exact le
  · have above := Nat.lt_of_le_of_ne least (Ne.symm ne)
    exact ⟨(risen above).1, fits above⟩

/-- A bay without an OPEN session is not raised (R95). -/
theorem State.issueTargets_unordered (tables : s.TablesOk) {k v : Nat} (hk : k ∈ s.gt.grants.map (·.bay))
    (hv : targetOf l k = some v) (low : (s.grant k).g ≤ v) (h : k ∉ s.admissionBays) :
    ((s.issueTargets l cb).grant k).g = (s.grant k).g := by
  rw [s.issueTargets_grant_g l cb tables hk, s.issuePasses_eq, State.raiseAll_grant_other l cb h, s.reduced_grant l hk,
    GrantRec.reissue_g, reducedGrant, hv]
  exact Nat.min_eq_left low

/-! ### The raises in admission order (R95) -/

section Turn

variable (tables : s.TablesOk) {before after : List Nat} {k v : Nat} (order : s.admissionBays = before ++ k :: after)
  (distinct : s.admissionBays.Nodup)

/-- The state of the second pass when the bays of a list have had their turns (R95). -/
def State.turnsTaken (s : State) (ks : List Nat) : State :=
  ks.foldl (State.raiseOne l cb) (s.reduced l)

include order distinct in
/-- A bay that has had its turn is as the passes leave it, and one that has not is as the first pass left it. -/
theorem State.turnsTaken_grant (j : Nat) : (s.turnsTaken l cb before).grant j =
    if j ∈ before then (s.issuePasses l cb).grant j else (s.reduced l).grant j := by
  split
  · next mem =>
    rw [order] at distinct
    have later : j ∉ k :: after := fun h => List.disjoint_of_nodup_append distinct mem h
    rw [s.issuePasses_eq, order, List.foldl_append, State.raiseAll_grant_other l cb later, State.turnsTaken]
  · next h => exact State.raiseAll_grant_other l cb h

include tables in
/-- What the other bays have committed at a bay's turn (R95). -/
theorem State.turnsTaken_othersCommitted (grant : ∀ j, (s.turnsTaken l cb before).grant j =
    if j ∈ before then (s.issuePasses l cb).grant j else (s.reduced l).grant j) :
    (s.turnsTaken l cb before).othersCommitted k =
      total ((s.inServiceBays.filter fun b => decide (b.number ≠ k)).map fun b =>
        max (if b.number ∈ before then ((s.issueTargets l cb).grant b.number).g else reducedGrant l b.number (s.grant b.number).g)
          (s.grant b.number).a) := by
  obtain ⟨grants, frame, -⟩ := (s.reduced l).raiseAll_records l cb before
  have bays : (s.turnsTaken l cb before).inServiceBays = s.inServiceBays := by
    rw [State.turnsTaken, frame]
    exact State.inServiceBays_of_eq rfl rfl
  rw [State.othersCommitted, bays]
  refine congrArg total (List.map_congr_left fun b hb => ?_)
  have mem := List.mem_of_mem_filter hb
  have row : b.number ∈ s.gt.grants.map (·.bay) := by
    rw [tables.grant_bays]
    exact List.mem_map_of_mem (State.mem_inServiceBays.1 mem).1
  rw [State.committed, grant]
  split
  · rw [s.issueTargets_grant_g l cb tables row, s.issuePasses_record l cb tables row, GrantRec.reissue_a, GrantRec.reissue_g]
  · rw [s.reduced_grant l row, GrantRec.reissue_a, GrantRec.reissue_g]

include tables order distinct in
/-- Each bay is raised into what the budget leaves beside the others' committed values at its turn (R95). -/
theorem State.issueTargets_turn (inside : s.isInService k = true) (hv : targetOf l k = some v) (above : (s.grant k).g < v) :
    ((s.issueTargets l cb).grant k).g = (raiseTo s.cfg.bayMin ((cb : Int) - total
      ((s.inServiceBays.filter fun b => decide (b.number ≠ k)).map fun b =>
        max (if b.number ∈ before then ((s.issueTargets l cb).grant b.number).g else reducedGrant l b.number (s.grant b.number).g)
          (s.grant b.number).a)) (s.grant k).g (s.grant k).a v).getD (s.grant k).g := by
  obtain ⟨b, hb, number⟩ := State.isInService_iff.1 inside
  have row : k ∈ s.gt.grants.map (·.bay) := by
    rw [tables.grant_bays, ← number]
    exact List.mem_map_of_mem (State.mem_inServiceBays.1 hb).1
  have once := distinct
  rw [order] at once
  obtain ⟨first, later⟩ : k ∉ before ∧ k ∉ after := by
    have := List.nodup_middle.1 once
    simpa using (List.nodup_cons.1 this).1
  have kept : (s.turnsTaken l cb before).grant k = s.grant k := by
    rw [State.turnsTaken, State.raiseAll_grant_other l cb first, s.reduced_grant l row, reducedGrant, hv, Option.getD_some,
      Nat.min_eq_left above.le, GrantRec.reissue_self]
  have ended : (s.issuePasses l cb).grant k = ((s.turnsTaken l cb before).raiseOne l cb k).grant k := by
    rw [s.issuePasses_eq, order, List.foldl_append, List.foldl_cons, State.raiseAll_grant_other l cb later, State.turnsTaken]
  obtain ⟨grants, frame, bays⟩ := (s.reduced l).raiseAll_records l cb before
  have alike := (s.reduced_alike l).trans (State.raiseAll_alike _ l cb before)
  have service : (s.turnsTaken l cb before).isInService k = true := by
    rw [State.turnsTaken, frame]
    exact inside
  have sum : (s.turnsTaken l cb before).committedSum =
      (s.turnsTaken l cb before).committed k + (s.turnsTaken l cb before).othersCommitted k :=
    State.committedSum_inService (tables.of_alike alike).bays_distinct service
  have room : (s.turnsTaken l cb before).room cb k = (cb : Int) - (s.turnsTaken l cb before).othersCommitted k := by
    rw [State.room]
    omega
  rw [s.issueTargets_grant_g l cb tables row, ended, State.raiseOne_grant_same l cb (by rw [State.turnsTaken, alike.grants]; exact row)
    hv (by rw [kept]; exact above), kept, room,
    s.turnsTaken_othersCommitted l cb tables (s.turnsTaken_grant l cb order distinct),
    show (s.turnsTaken l cb before).cfg = s.cfg from alike.cfg]

end Turn

end Sys2Proof.Machine
end

section
/-! The statements about the requests on the grants and about the issue of a round (R94 to R98, R100). -/

namespace Sys2Proof.Machine

variable {s : State}

/-! ### READ GRANTS (R97) -/

theorem State.arrive_inServiceBays (s : State) (p : Port) : (s.arrive p).inServiceBays = s.inServiceBays :=
  State.inServiceBays_of_eq (s.arrive_cfg p) (s.arrive_bt p)

/-- The in-service bays stand in ascending order in a table that has its bays in order (R45, R97). -/
theorem State.TablesOk.inServiceBays_ascending (h : s.TablesOk) : (s.inServiceBays.map (·.number)).Pairwise (· < ·) := by
  have rising : (s.bt.bays.map (·.number)).Pairwise (· < ·) := h.bays ▸ List.pairwise_lt_range'
  exact rising.sublist (List.filter_sublist.map _)

/-- Settles O35: the block's answer entry by entry, and the order of the bays in the table. -/
theorem readGrantsListsBays : Obligations.ReadGrantsListsBays := by
  intro tag payload s hr a
  refine ⟨_, next_takeRequest_network hr rfl, ?_, fun tables => ?_⟩
  · rw [s.arrive_inServiceBays]
    refine congrArg (List.map _) (List.filter_congr fun b _ => ?_)
    simp [State.inService, State.isKnown, Bool.and_assoc]
  · rw [s.arrive_inServiceBays, List.map_map]
    exact tables.inServiceBays_ascending

/-! ### ACK GRANTS (R98) -/

theorem epochField_bytes (b3 b2 b1 b0 : Byte) : epochField [b3, b2, b1, b0] =
    some (b3.toNat * 16777216 + b2.toNat * 65536 + b1.toNat * 256 + b0.toNat) := by
  simp only [epochField, be32, Option.some.injEq]
  omega

theorem epochField_of_length {payload : List Byte} (h : payload.length ≠ 4) : epochField payload = none := by
  unfold epochField
  split
  · exact absurd rfl h
  · rfl

/-- A bay issued at or before the epoch takes a = g, with no timing and no mark left (R98, R100). -/
theorem ackGrant_eq (now : Word) (e : Nat) (x : GrantRec) :
    ackGrant now e x = if x.e ≤ e then { x with a := x.g, mismatch := none, overdue := false } else x := by
  unfold ackGrant GrantRec.move
  rw [if_pos rfl]

section Acknowledge

variable {payload : List Byte} {e : Nat} (hf : epochField payload = some e)
include hf

theorem handleAckGrants_above (h : s.gt.eg < e) : handleAckGrants payload s = (s, .outOfRange, .empty) := by
  simp only [handleAckGrants, hf, if_pos h, refuse]

theorem handleAckGrants_below (hg : e ≤ s.gt.eg) (h : e < s.gt.ea) :
    handleAckGrants payload s = (s, .ok, .epochs s.gt.eg s.gt.ea) := by
  simp only [handleAckGrants, hf, if_neg (Nat.not_lt.2 hg), if_pos h]

theorem handleAckGrants_confirms (hg : e ≤ s.gt.eg) (h : s.gt.ea ≤ e) : handleAckGrants payload s =
    ({ s with gt := { s.gt with grants := s.gt.grants.map (ackGrant s.tb.ms e), ea := e } }, .ok, .epochs s.gt.eg e) := by
  simp only [handleAckGrants, hf, if_neg (Nat.not_lt.2 hg), if_neg (Nat.not_lt.2 h)]

end Acknowledge

/-- Settles O36: the three ranges of the epoch and the payloads of another length. -/
theorem ackGrantsConfirms : Obligations.AckGrantsConfirms := by
  intro tag b3 b2 b1 b0 s hr a e
  have field : epochField [b3, b2, b1, b0] = some e := epochField_bytes b3 b2 b1 b0
  refine ⟨fun above => ?_, fun known old => ?_, fun known new => ?_, fun payload length => ?_⟩
  · exact next_takeRequest_network hr (handleAckGrants_above field above)
  · exact next_takeRequest_network hr (handleAckGrants_below field known old)
  · refine next_takeRequest_network hr ((handleAckGrants_confirms field known new).trans ?_)
    rw [funext (ackGrant_eq (s.arrive .network).tb.ms e)]
  · refine next_takeRequest_network hr ?_
    simp only [handleAckGrants, epochField_of_length length]
    rfl

/-! ### The issue of a round (R94 to R96, R100) -/

theorem targetOf_eq_some_iff {l : List (Nat × Nat)} (hl : (l.map (·.1)).Nodup) {k v : Nat} :
    targetOf l k = some v ↔ (k, v) ∈ l :=
  ⟨mem_of_targetOf, targetOf_of_mem hl⟩

theorem targetOf_eq_none {l : List (Nat × Nat)} {k : Nat} (h : ∀ v, (k, v) ∉ l) : targetOf l k = none := by
  cases ht : targetOf l k with
  | none => rfl
  | some v => exact absurd (mem_of_targetOf ht) (h v)

/-- With the grants changed the next epoch is taken and told on port N, else the epoch and the ports are as before (R94). -/
theorem State.issueTargets_epoch (l : List (Nat × Nat)) (cb : Nat) (tables : s.TablesOk) :
    (¬ s.Reissues l cb → (s.issueTargets l cb).gt.eg = s.gt.eg ∧ (s.issueTargets l cb).sp = s.sp) ∧
    (s.Reissues l cb → (s.issueTargets l cb).gt.eg = nextEpoch s.gt.eg ∧
      (s.issueTargets l cb).sp = (s.raise .network .grantsChanged (.num (nextEpoch s.gt.eg)) (.num 0)).sp) := by
  obtain ⟨grants, frame, -⟩ := s.marked_records l cb
  rcases s.issueTargets_cases l cb tables with ⟨changed, taken⟩ | ⟨kept, same⟩
  · refine ⟨fun none => absurd changed none, fun _ => ?_⟩
    rw [taken, frame]
    exact ⟨rfl, rfl⟩
  · refine ⟨fun _ => ?_, fun changed => absurd changed kept⟩
    rw [same, frame]
    exact ⟨rfl, rfl⟩

theorem State.issueTargets_reissues_iff (l : List (Nat × Nat)) (cb : Nat) (tables : s.TablesOk) :
    s.Reissues l cb ↔ ∃ x ∈ s.gt.grants, ((s.issueTargets l cb).grant x.bay).g ≠ x.g := by
  refine exists_congr fun x => and_congr_right fun hx => ?_
  rw [s.issueTargets_grant_g l cb tables (List.mem_map_of_mem hx)]

theorem nextEpoch_eq (n : Nat) : nextEpoch n = if n = Config.maxWord then Config.maxWord else n + 1 := by
  unfold nextEpoch
  split
  · next h => exact h
  · rfl

/-- Settles O37: the raise by its bounds, then each bay's record by the passes, the bays' turns, and the epoch. -/
theorem issueLowersThenRaises : Obligations.IssueLowersThenRaises := by
  refine ⟨fun bayMin room g a t => ⟨fun v => raiseTo_eq_some_iff, raiseTo_eq_none_iff⟩,
    fun l cb s tables keys => ?_⟩
  intro t changed eg order
  have next : nextEpoch s.gt.eg = eg := nextEpoch_eq s.gt.eg
  have changes := s.issueTargets_reissues_iff l cb tables
  obtain ⟨kept, taken⟩ := s.issueTargets_epoch l cb tables
  rw [next] at taken
  obtain ⟨gt, sp, frame⟩ := s.issueTargets_frame l cb
  refine ⟨gt, sp, frame, (s.issueTargets_alike l cb).grants, fun x hx => ?_, fun sessions bindings => ?_,
    fun before k after v split once inside mem above => ?_, fun h => kept (mt changes.1 h), fun h => taken (changes.2 h)⟩
  · have row : x.bay ∈ s.gt.grants.map (·.bay) := List.mem_map_of_mem hx
    have record := State.grant_of_mem tables.grants_distinct hx
    have marks := s.issueTargets_grant_marks l cb tables row
    have epoch := s.issueTargets_grant_e l cb tables row
    have acknowledged := s.issueTargets_grant_a l cb tables row
    have lowers {v} := s.issueTargets_lowers l cb tables row (v := v)
    have raises {v} := s.issueTargets_raises l cb tables (v := v) row
    have unordered {v} := s.issueTargets_unordered l cb tables (v := v) row
    have untargeted := s.issueTargets_untargeted l cb tables row
    have deferred {v} := s.issueTargets_deferred l cb tables (v := v) row
    rw [record] at marks epoch acknowledged untargeted
    rw [next] at epoch
    simp only [record, targetOf_eq_some_iff keys] at lowers raises unordered deferred
    intro y
    refine ⟨acknowledged, fun v => lowers, fun v mem low => raises mem low, fun v mem low off => unordered mem low off,
      fun none => untargeted (targetOf_eq_none none), fun v => deferred, epoch, fun same => ?_, fun ne met => ?_,
      fun ne unmet => ?_⟩
    · have := marks
      rw [show ((s.issueTargets l cb).grant x.bay).g = x.g from same, GrantRec.reissue_self] at this
      exact this
    · have := x.reissue_met s.tb.ms ne met
      exact ⟨marks.1.trans this.1, marks.2.trans this.2⟩
    · have := x.reissue_unmet s.tb.ms ne unmet
      exact ⟨marks.2.trans this.1, marks.1.trans this.2⟩
  · exact State.openSessions_bays (bindings.linked tables sessions)
  · exact s.issueTargets_turn l cb tables split once inside (targetOf_of_mem keys mem) above

end Sys2Proof.Machine
end

section
/-! What the laws of the grants need of the operations on the grants: records that lose nothing but power, bays whose connector
changes, and the lapse treatment (R93, R95, R98 to R104). -/

namespace Sys2Proof.Machine

variable {s t u : State} {out : Nat → Prop}

/-! ### Records and service -/

/-- What holds of every record and of a record at its power-up values holds of the record of any bay. -/
theorem State.grant_forall {p : GrantRec → Prop} (h : ∀ x ∈ s.gt.grants, p x) {k : Nat} (fresh : p (GrantRec.fresh k)) :
    p (s.grant k) := by
  unfold State.grant
  cases hx : s.gt.grants.find? fun x => x.bay == k with
  | none => exact fresh
  | some x => exact h x (List.mem_of_find?_eq_some hx)

theorem State.grant_bay (s : State) (k : Nat) : (s.grant k).bay = k := by
  unfold State.grant
  cases hx : s.gt.grants.find? fun x => x.bay == k with
  | none => rfl
  | some x => simpa using List.find?_some hx

theorem State.grant_of_gt (h : t.gt = s.gt) (k : Nat) : t.grant k = s.grant k := by
  rw [State.grant, h, State.grant]

theorem State.inService_iff {b : BayRec} :
    s.inService b = true ↔ (1 ≤ b.number ∧ b.number ≤ s.cfg.bayCount) ∧ b.state ≠ .outOfService := by
  simp [State.inService, State.isKnown]

/-- A bay of an ordered table is in service as its number is. -/
theorem State.isInService_number (distinct : (s.bt.bays.map (·.number)).Nodup) {b : BayRec} (hb : b ∈ s.bt.bays) :
    s.isInService b.number = s.inService b := by
  rw [Bool.eq_iff_iff, State.isInService_iff]
  constructor
  · rintro ⟨c, hc, number⟩
    obtain ⟨mem, service⟩ := List.mem_filter.1 hc
    rwa [← List.inj_on_of_nodup_map distinct mem hb number]
  · exact fun service => ⟨b, List.mem_filter.2 ⟨hb, service⟩, rfl⟩

/-- A change of the bay records that keeps each number and each service keeps the bays in service. -/
theorem State.isInService_of_map {f : BayRec → BayRec} (cfg : t.cfg = s.cfg) (bays : t.bt.bays = s.bt.bays.map f)
    (number : ∀ b, (f b).number = b.number) (service : ∀ b, (f b).state = .outOfService ↔ b.state = .outOfService) (k : Nat) :
    t.isInService k = s.isInService k := by
  rw [Bool.eq_iff_iff, State.isInService_iff, State.isInService_iff]
  simp only [State.mem_inServiceBays, bays, cfg, List.mem_map]
  constructor
  · rintro ⟨_, ⟨⟨b, hb, rfl⟩, known, inside⟩, e⟩
    rw [number] at known e
    exact ⟨b, ⟨hb, known, mt (service b).2 inside⟩, e⟩
  · rintro ⟨b, ⟨hb, known, inside⟩, e⟩
    exact ⟨f b, ⟨⟨b, hb, rfl⟩, by rwa [number], mt (service b).1 inside⟩, by rwa [number]⟩

/-! ### Grants of 0 -/

/-- With every issued grant 0 the laws ask for the acknowledged grants alone. -/
theorem State.GrantsOk.of_zero (zero : ∀ x ∈ s.gt.grants, x.g = 0)
    (idle : ∀ b ∈ s.bt.bays, s.inService b = false → (s.grant b.number).a = 0)
    (configure : s.site = .configure → ∀ x ∈ s.gt.grants, x.a = 0) : s.GrantsOk where
  each b hb :=
    have none : (s.grant b.number).g = 0 := State.grant_forall (p := fun x => x.g = 0) zero rfl
    ⟨.inl none, fun service => ⟨none, idle b hb service⟩⟩
  budget r _ := by
    refine (List.sum_eq_zero fun n hn => ?_).trans_le (Nat.zero_le r.cb)
    obtain ⟨x, hx, rfl⟩ := List.mem_map.1 hn
    exact zero x hx
  before _ := zero
  lapsed _ := zero
  configure site x hx := ⟨zero x hx, configure site x hx⟩

theorem State.GrantsOk.of_clear (clear : ∀ x ∈ s.gt.grants, x.g = 0 ∧ x.a = 0) : s.GrantsOk :=
  .of_zero (fun x hx => (clear x hx).1)
    (fun _ _ _ => (State.grant_forall (p := fun x => x.g = 0 ∧ x.a = 0) clear ⟨rfl, rfl⟩).2) fun _ x hx => (clear x hx).2

/-- A bay record with no bay in service has no grant (R93). -/
theorem State.GrantsOk.unserved (hs : s.GrantsOk) (tables : s.TablesOk) {x : GrantRec} (hx : x ∈ s.gt.grants)
    (h : s.isInService x.bay = false) : x.g = 0 ∧ x.a = 0 := by
  have row : x.bay ∈ s.bt.bays.map (·.number) := tables.grant_bays ▸ List.mem_map_of_mem hx
  obtain ⟨b, hb, number⟩ := List.mem_map.1 row
  have idle := (hs.each b hb).idle
  rw [← State.isInService_number tables.bays_distinct hb, number, State.grant_of_mem tables.grants_distinct hx] at idle
  exact idle h

/-! ### Records that lose nothing but power -/

theorem State.GrantOk.of_zero {b : BayRec} (h : (s.grant b.number).g = 0 ∧ (s.grant b.number).a = 0) : s.GrantOk b :=
  ⟨.inl h.1, fun _ => h⟩

/-- The surroundings of a change of the grant records: each record keeps its issued grant or loses it, one without grants gets
none, and the bays of `out` lose theirs. -/
structure Settling (out : Nat → Prop) (f : GrantRec → GrantRec) : Prop where
  bay : ∀ x, (f x).bay = x.bay
  issued : ∀ x, (f x).g = x.g ∨ (f x).g = 0
  idle : ∀ x, x.g = 0 → x.a = 0 → (f x).a = 0
  cleared : ∀ x, out x.bay → (f x).g = 0 ∧ (f x).a = 0

section Settling

variable {f : GrantRec → GrantRec} (hf : Settling out f)
include hf

theorem Settling.low (x : GrantRec) : (f x).g ≤ x.g := by
  rcases hf.issued x with same | none
  · exact same.le
  · exact none ▸ Nat.zero_le _

theorem Settling.zero {x : GrantRec} (h : x.g = 0) : (f x).g = 0 :=
  Nat.le_zero.1 (h ▸ hf.low x)

/-- A bay keeps its grant in range, and has none once it is out of service. -/
theorem State.GrantOk.settled {a b : BayRec} (ha : s.GrantOk a) (cfg : t.cfg = s.cfg) (number : a.number = b.number)
    (connector : a.connectorMax = b.connectorMax)
    (service : b.state = .outOfService → a.state = .outOfService ∨ out b.number)
    (record : t.grant b.number = f (s.grant b.number)) : t.GrantOk b := by
  obtain ⟨range, unserved⟩ := ha
  rw [number] at range unserved
  have max : t.bayMax b = s.bayMax a := by rw [State.bayMax, State.bayMax, cfg, connector]
  constructor
  · rw [record, max, cfg]
    rcases hf.issued (s.grant b.number) with same | none
    · rwa [same]
    · exact .inl none
  · intro outside
    rw [record]
    cases inside : s.inService a with
    | false =>
      obtain ⟨g, a⟩ := unserved inside
      exact ⟨hf.zero g, hf.idle _ g a⟩
    | true =>
      obtain ⟨known, serves⟩ := State.inService_iff.1 inside
      have gone : b.state = .outOfService := by
        by_contra stays
        have : t.inService b = true := State.inService_iff.2 ⟨by rw [← number, cfg]; exact known, stays⟩
        exact nomatch this.symm.trans outside
      exact hf.cleared _ (by rw [s.grant_bay]; exact (service gone).resolve_left serves)

/-- The laws hold where the grants settle in steady surroundings. -/
theorem State.GrantsOk.settled (hs : s.GrantsOk) (h : s.Steady out u) {gt : GrantTable}
    (grants : gt.grants = s.gt.grants.map f) : State.GrantsOk { u with gt := gt } := by
  have zero (old : ∀ x ∈ s.gt.grants, x.g = 0) : ∀ y ∈ gt.grants, y.g = 0 := fun y hy => by
    obtain ⟨x, hx, rfl⟩ := List.mem_map.1 (grants ▸ hy)
    exact hf.zero (old x hx)
  exact {
    each := fun b hb => by
      obtain ⟨a, ha, number, connector, service⟩ := h.bays b hb
      rcases State.grant_of_map_or (t := { u with gt := gt }) hf.bay grants b.number with record | ⟨record, -⟩
      · exact (hs.each a ha).settled hf h.cfg number connector service record
      · exact .of_zero (by rw [record]; exact ⟨rfl, rfl⟩)
    budget := fun r hr => by
      refine le_trans ?_ (hs.budget r (h.results ▸ hr))
      show total (gt.grants.map (·.g)) ≤ _
      rw [grants, List.map_map]
      exact List.sum_le_sum fun x _ => hf.low x
    before := fun none => zero (hs.before (h.results ▸ none))
    lapsed := fun absent => zero (hs.lapsed (by
      by_contra present
      exact nomatch (h.present (by simpa using present)).symm.trans absent))
    configure := fun site y hy => by
      have old := hs.configure (h.site ▸ site)
      refine ⟨zero (fun x hx => (old x hx).1) y hy, ?_⟩
      obtain ⟨x, hx, rfl⟩ := List.mem_map.1 (grants ▸ hy)
      exact hf.idle x (old x hx).1 (old x hx).2 }

end Settling

theorem State.GrantsOk.steady (hs : s.GrantsOk) (h : s.Steady (fun _ => False) t) : t.GrantsOk :=
  have kept : Settling (fun _ => False) id := ⟨fun _ => rfl, fun _ => .inl rfl, fun _ _ h => h, fun _ h => h.elim⟩
  hs.settled kept h (gt := t.gt) (by rw [h.gt, List.map_id])

/-- A change of marks, epochs and timings alone. -/
theorem Settling.of_kept {f : GrantRec → GrantRec} (bay : ∀ x, (f x).bay = x.bay) (g : ∀ x, (f x).g = x.g)
    (a : ∀ x, (f x).a = x.a) : Settling (fun _ => False) f :=
  ⟨bay, fun x => .inl (g x), fun x _ h => (a x).trans h, fun _ h => h.elim⟩

theorem Settling.ite {f : GrantRec → GrantRec} (hf : Settling out f) (k : Nat) (h : ∀ j, out j → j = k) :
    Settling out fun x => if x.bay = k then f x else x where
  bay x := by simp only [apply_ite GrantRec.bay, hf.bay, ite_self]
  issued x := by
    split
    · exact hf.issued x
    · exact .inl rfl
  idle x hg ha := by
    split
    · exact hf.idle x hg ha
    · exact ha
  cleared x hx := by
    rw [if_pos (h _ hx)]
    exact hf.cleared x hx

/-- A new epoch changes no grant (R94). -/
theorem State.GrantsOk.takeEpoch (hs : s.GrantsOk) (f : Nat → Bool) : (s.takeEpoch f).GrantsOk :=
  have kept : Settling (fun _ => False) fun (x : GrantRec) => if f x.bay then { x with e := nextEpoch s.gt.eg } else x :=
    .of_kept (fun x => by split <;> rfl) (fun x => by split <;> rfl) fun x => by split <;> rfl
  hs.settled kept (s.raise_steady .network .grantsChanged (.num (nextEpoch s.gt.eg)) (.num 0)) rfl

theorem State.GrantsOk.returnGrants (hs : s.GrantsOk) : s.returnGrants.GrantsOk :=
  have kept : Settling (fun _ => False) fun (x : GrantRec) =>
      if s.isInService x.bay && decide (x.g ≠ x.a) then { x with mismatch := some s.tb.ms } else x :=
    .of_kept (fun x => by split <;> rfl) (fun x => by split <;> rfl) fun x => by split <;> rfl
  (hs.takeEpoch s.isInService).settled kept (.refl _) rfl

theorem State.GrantsOk.arrive (hs : s.GrantsOk) (p : Port) : (s.arrive p).GrantsOk := by
  have present : State.GrantsOk ((s.emptyReceiver p).updPort p fun x =>
      { x with presence := .present, timer := some s.tb.ms }) := by
    refine (hs.steady (s.emptyReceiver_steady p)).steady ?_
    cases p with
    | network => exact { present := fun _ => rfl }
    | till => exact {}
    | energy => exact {}
  unfold State.arrive State.frameValid
  dsimp only
  split
  · exact present
  · cases p with
    | network =>
      unfold State.onReturn
      dsimp only
      split
      · exact present.returnGrants
      · exact present
    | till => exact present.steady {}
    | energy => exact present

/-- A bay taken out of service loses its grants (R99). -/
theorem State.GrantsOk.outGrant (hs : s.GrantsOk) (k : Nat) (h : s.Steady (· = k) t) : (t.outGrant k).GrantsOk := by
  have clear : Settling (· = k) GrantRec.clear :=
    ⟨fun _ => rfl, fun _ => .inr rfl, fun _ _ _ => rfl, fun _ _ => ⟨rfl, rfl⟩⟩
  have cleared : (t.updGrant k GrantRec.clear).GrantsOk := hs.settled (clear.ite k fun _ hj => hj) h (by rw [← h.gt])
  unfold State.outGrant
  dsimp only
  split
  · exact cleared
  · exact cleared.takeEpoch _

theorem settling_ackGrant (now : Word) (e : Nat) : Settling (fun _ => False) (ackGrant now e) where
  bay := ackGrant_bay now e
  issued x := by
    rw [ackGrant_eq]
    split <;> exact .inl rfl
  idle x hg ha := by
    rw [ackGrant_eq]
    split
    · exact hg
    · exact ha
  cleared _ h := h.elim

theorem State.GrantsOk.expireOverdue (hs : s.GrantsOk) (k : Nat) : (s.expireOverdue k).GrantsOk := by
  have mark : Settling (fun _ => False) fun (x : GrantRec) => { x with overdue := true } :=
    .of_kept (fun _ => rfl) (fun _ => rfl) fun _ => rfl
  unfold State.expireOverdue
  split
  · exact hs.settled (mark.ite k fun _ h => h.elim) (.refl s) rfl
  · exact hs

/-! ### A connector that changes (R49, R99) -/

/-- The refresh of a bay's record, with its grant lowered where the new bay max is below it. -/
theorem State.GrantsOk.refreshed (hs : s.GrantsOk) (tables : s.TablesOk) {b : BayRec} {x : ReportEntry}
    (hb : s.bay x.bay = some b) {f : GrantRec → GrantRec} (bay : ∀ y, (f y).bay = y.bay) (ack : ∀ y, (f y).a = y.a)
    (low : (f (s.grant x.bay)).g ≤ (s.grant x.bay).g)
    (range : (f (s.grant x.bay)).g = 0 ∨ s.cfg.bayMin ≤ (f (s.grant x.bay)).g ∧
      (f (s.grant x.bay)).g ≤ min x.connectorMax s.cfg.perBayCap) :
    ((s.updBay x.bay (BayRec.refresh s.tb.ms x)).updGrant x.bay f).GrantsOk := by
  obtain ⟨mem, number⟩ := s.mem_of_bay hb
  have row : x.bay ∈ s.gt.grants.map (·.bay) := by
    rw [tables.grant_bays, ← number]
    exact List.mem_map_of_mem mem
  have own : ((s.updBay x.bay (BayRec.refresh s.tb.ms x)).updGrant x.bay f).grant x.bay = f (s.grant x.bay) :=
    State.updGrant_grant_same (s.updBay x.bay (BayRec.refresh s.tb.ms x)) bay row
  have other {j : Nat} (hj : j ≠ x.bay) :
      ((s.updBay x.bay (BayRec.refresh s.tb.ms x)).updGrant x.bay f).grant j = s.grant j :=
    State.updGrant_grant_other (s.updBay x.bay (BayRec.refresh s.tb.ms x)) bay hj
  have fall : ∀ y ∈ s.gt.grants, (if y.bay = x.bay then f y else y).g ≤ y.g := fun y hy => by
    split
    · next h =>
      have := State.grant_of_mem tables.grants_distinct hy
      rw [h] at this
      exact this ▸ low
    · exact le_rfl
  have zero (old : ∀ y ∈ s.gt.grants, y.g = 0) :
      ∀ y ∈ s.gt.grants.map fun y => if y.bay = x.bay then f y else y, y.g = 0 := fun y hy => by
    obtain ⟨z, hz, rfl⟩ := List.mem_map.1 hy
    exact Nat.le_zero.1 (old z hz ▸ fall z hz)
  exact {
    each := fun c hc => by
      obtain ⟨a, ha, rfl⟩ := List.mem_map.1 hc
      obtain ⟨range', idle⟩ := hs.each a ha
      split
      · next hn =>
        rw [hn] at idle
        have record : ((s.updBay x.bay (BayRec.refresh s.tb.ms x)).updGrant x.bay f).grant
            (BayRec.refresh s.tb.ms x a).number = f (s.grant x.bay) := (congrArg _ hn).trans own
        constructor
        · rw [record]
          exact range
        · intro outside
          rw [record, ack]
          obtain ⟨hg, ha⟩ := idle outside
          exact ⟨Nat.le_zero.1 (hg ▸ low), ha⟩
      · next hn => exact ⟨by rw [other hn]; exact range', by rw [other hn]; exact idle⟩
    budget := fun r hr => by
      refine le_trans ?_ (hs.budget r hr)
      rw [State.updGrant_grants, List.map_map]
      exact List.sum_le_sum fall
    before := fun none => zero (hs.before none)
    lapsed := fun absent => zero (hs.lapsed absent)
    configure := fun site y hy => by
      have old := hs.configure site
      refine ⟨zero (fun z hz => (old z hz).1) y hy, ?_⟩
      obtain ⟨z, hz, rfl⟩ := List.mem_map.1 hy
      split
      · exact (ack z).trans (old z hz).2
      · exact (old z hz).2 }

theorem loweredGrant_range (bayMin bayMax : Nat) : loweredGrant bayMin bayMax = 0 ∨
    bayMin ≤ loweredGrant bayMin bayMax ∧ loweredGrant bayMin bayMax ≤ bayMax := by
  unfold loweredGrant
  split
  · exact .inl rfl
  · next h => exact .inr ⟨Nat.not_lt.1 h, le_rfl⟩

theorem loweredGrant_le (bayMin bayMax : Nat) : loweredGrant bayMin bayMax ≤ bayMax := by
  unfold loweredGrant
  split
  · exact Nat.zero_le _
  · exact le_rfl

theorem State.GrantsOk.refreshBay (hs : s.GrantsOk) (tables : s.TablesOk) {b : BayRec} {x : ReportEntry}
    (hb : s.bay x.bay = some b) : (s.refreshBay b x).GrantsOk := by
  obtain ⟨mem, number⟩ := s.mem_of_bay hb
  obtain ⟨range, idle⟩ := hs.each b mem
  rw [number] at range idle
  have kept (h : (s.grant x.bay).g = 0 ∨ s.cfg.bayMin ≤ (s.grant x.bay).g ∧
      (s.grant x.bay).g ≤ min x.connectorMax s.cfg.perBayCap) : (s.updBay x.bay (BayRec.refresh s.tb.ms x)).GrantsOk := by
    have := hs.refreshed tables hb (f := id) (fun _ => rfl) (fun _ => rfl) le_rfl h
    simp only [State.updGrant, id_eq, ite_self, List.map_id'] at this
    exact this
  cases service : s.inService b with
  | false =>
    rw [State.refreshBay_outOfService s service]
    exact kept (.inl (idle service).1)
  | true =>
    have max : (s.updBay x.bay (BayRec.refresh s.tb.ms x)).bayMax (BayRec.refresh s.tb.ms x b) =
      min x.connectorMax s.cfg.perBayCap := rfl
    unfold State.refreshBay State.lowerByReport
    dsimp only
    rw [if_pos service, max]
    split
    · next lower =>
      refine State.GrantsOk.takeEpoch (hs.refreshed tables hb (fun y => y.move_bay _ _ _) (fun y => y.move_a _ _ _) ?_ ?_) _
      · rw [GrantRec.move_g]
        exact (loweredGrant_le _ _).trans (le_of_lt lower)
      · rw [GrantRec.move_g]
        exact loweredGrant_range _ _
    · next fits => exact kept (range.imp_right fun h => ⟨h.1, Nat.not_lt.1 fits⟩)

/-! ### The lapse treatment (R61, R102) -/

theorem BayRec.lapse_outOfService (minute : Nat) (b : BayRec) :
    (b.lapse minute).state = .outOfService ↔ b.state = .outOfService := by
  unfold BayRec.lapse
  split
  · next h => simp [h]
  · rfl

theorem State.lapseTreatment_isInService (s : State) (k : Nat) : s.lapseTreatment.isInService k = s.isInService k :=
  State.isInService_of_map (s := s) (t := s.lapseTreatment) rfl rfl (BayRec.lapse_number _) (BayRec.lapse_outOfService _) k

theorem State.lapseTreatment_grants (s : State) : s.lapseTreatment.gt.grants = s.gt.grants.map fun x =>
    if s.isInService x.bay then x.lapse s.cfg.fallbackPower else x := by
  refine List.map_congr_left fun x _ => ?_
  have service : (s.mapBays (BayRec.lapse s.tb.monoMin)).isInService x.bay = s.isInService x.bay :=
    s.lapseTreatment_isInService x.bay
  rw [service]
  rfl

/-- The lapse treatment leaves no issued grant where the bays out of service have none. -/
theorem State.lapseTreatment_zero (unserved : ∀ x ∈ s.gt.grants, s.isInService x.bay = false → x.g = 0 ∧ x.a = 0) :
    ∀ y ∈ s.lapseTreatment.gt.grants, y.g = 0 := by
  intro y hy
  obtain ⟨x, hx, rfl⟩ := List.mem_map.1 (s.lapseTreatment_grants ▸ hy)
  split
  · rfl
  · next h => exact (unserved x hx (by simpa using h)).1

theorem State.lapseTreatment_grantsOk (distinct : (s.bt.bays.map (·.number)).Nodup) (run : s.site = .run)
    (unserved : ∀ x ∈ s.gt.grants, s.isInService x.bay = false → x.g = 0 ∧ x.a = 0) : s.lapseTreatment.GrantsOk := by
  refine .of_zero (State.lapseTreatment_zero unserved) (fun b hb outside => ?_) fun h => nomatch run.symm.trans h
  have distinct' : (s.lapseTreatment.bt.bays.map (·.number)).Nodup := by
    rw [s.lapseTreatment_alike.bays]
    exact distinct
  rw [← State.isInService_number distinct' hb, s.lapseTreatment_isInService] at outside
  rcases State.grant_of_map_or (f := fun x => if s.isInService x.bay then x.lapse s.cfg.fallbackPower else x)
    (fun x => by split <;> rfl) s.lapseTreatment_grants b.number with record | ⟨record, -⟩
  · rw [record, s.grant_bay, outside, if_neg Bool.false_ne_true]
    exact (State.grant_forall (p := fun x => s.isInService x.bay = false → x.g = 0 ∧ x.a = 0) unserved
      (fun _ => ⟨rfl, rfl⟩) (by rw [s.grant_bay]; exact outside)).2
  · rw [record]
    rfl

end Sys2Proof.Machine
end

section
/-! The laws of the grants are kept by a round and by every step (R93, R95, R104). -/

namespace Sys2Proof.Machine

variable {s : State}

/-! ### The round (R83, R95) -/

theorem State.figures_targets_bays (present : s.isPresent .network = true) :
    s.figures.targets.map (·.1) = s.inServiceBays.map (·.number) := by
  rw [State.figures_targets present, List.map_map]
  rfl

/-- A round has no target for a bay that is not in service (R83). -/
theorem State.figures_untargeted (present : s.isPresent .network = true) {k : Nat} (h : s.isInService k = false) :
    targetOf s.figures.targets k = none := by
  refine targetOf_eq_none fun v hv => ?_
  have key := List.mem_map_of_mem (f := (·.1)) hv
  rw [State.figures_targets_bays present] at key
  obtain ⟨b, hb, number⟩ := List.mem_map.1 key
  exact nomatch h.symm.trans (State.isInService_iff.2 ⟨b, hb, number⟩)

/-- The target of an in-service bay is 0, its issued grant, or a power from the bay min to the bay max (R72, R83). -/
theorem State.figures_target (linked : s.Linked) (present : s.isPresent .network = true) {b : BayRec}
    (hb : b ∈ s.inServiceBays) : ∃ v, targetOf s.figures.targets b.number = some v ∧
      (v = 0 ∨ v = (s.grant b.number).g ∨ s.cfg.bayMin ≤ v ∧ v ≤ s.bayMax b) := by
  refine ⟨s.targetFor s.figures.shared.targets (frozen s.figures.cb s.staleBays) b, targetOf_of_mem ?_ ?_, ?_⟩
  · rw [State.figures_targets_bays present]
    exact State.inServiceBays_distinct linked
  · rw [State.figures_targets present]
    exact List.mem_map_of_mem hb
  · obtain ⟨n, -, left, -, -⟩ := s.frozen_eq_take s.figures.cb
    rw [left, State.targetFor_eq]
    cases shared : targetOf s.figures.shared.targets b.number with
    | none =>
      rw [Option.getD_none]
      split
      · exact .inr (.inl rfl)
      · exact .inl rfl
    | some v =>
      have given := mem_of_targetOf shared
      rw [State.figures_shared present] at given
      obtain ⟨y, hy, bay, range⟩ := shareBudget_within (fun y hy => by
        obtain ⟨_, _, _, _, _, _, _, _, _, _, _, least, _⟩ := State.of_mem_candidates hy
        exact least) _ given
      obtain ⟨c, hc, _, _, number, _, _, _, _, _, demand, _, _⟩ := State.of_mem_candidates hy
      obtain rfl : c = b := List.inj_on_of_nodup_map (State.inServiceBays_distinct linked) hc hb (number.trans bay.symm)
      exact range.imp_right fun h => .inr ⟨h.1, h.2.trans (demand ▸ Nat.min_le_right _ _)⟩

section Issue

variable (hs : s.GrantsOk) (tables : s.TablesOk) (linked : s.Linked) (present : s.isPresent .network = true)
include hs tables linked present

/-- A round leaves each bay's issued grant 0 or in range, and a bay out of service without one (R95, R93). -/
theorem State.GrantsOk.issued {b : BayRec} (hb : b ∈ s.bt.bays) {y : GrantRec}
    (hy : (s.issueTargets s.figures.targets s.figures.cb).grant b.number = y) :
    (y.g = 0 ∨ s.cfg.bayMin ≤ y.g ∧ y.g ≤ s.bayMax b) ∧ (s.inService b = false → y.g = 0 ∧ y.a = 0) ∧
      y.g ≤ (targetOf s.figures.targets b.number).getD 0 := by
  obtain ⟨range, idle⟩ := hs.each b hb
  have row : b.number ∈ s.gt.grants.map (·.bay) := tables.grant_bays ▸ List.mem_map_of_mem hb
  have acknowledged := s.issueTargets_grant_a s.figures.targets s.figures.cb tables row
  cases inside : s.inService b with
  | false =>
    have none := State.figures_untargeted present ((State.isInService_number tables.bays_distinct hb).trans inside)
    obtain ⟨same, -⟩ := s.issueTargets_untargeted s.figures.targets s.figures.cb tables row none
    obtain ⟨g, a⟩ := idle inside
    rw [hy] at same acknowledged
    rw [same, acknowledged, g, a]
    exact ⟨.inl rfl, fun _ => ⟨rfl, rfl⟩, Nat.zero_le _⟩
  | true =>
    obtain ⟨v, hv, target⟩ := State.figures_target linked present (List.mem_filter.2 ⟨hb, inside⟩)
    rw [hv, Option.getD_some]
    rcases lt_or_ge v (s.grant b.number).g with lower | low
    · have := s.issueTargets_lowers s.figures.targets s.figures.cb tables row hv lower
      rw [hy] at this
      exact ⟨by omega, nofun, this.le⟩
    · have := s.issueTargets_raises s.figures.targets s.figures.cb tables row hv low
      rw [hy] at this
      obtain ⟨least, most, rise⟩ := this
      refine ⟨?_, nofun, most⟩
      by_cases same : y.g = (s.grant b.number).g
      · rwa [same]
      · have := (rise same).1
        omega

/-- The issued grants after a round sum to no more than its budget (R95). -/
theorem State.GrantsOk.issued_total :
    total ((s.issueTargets s.figures.targets s.figures.cb).gt.grants.map (·.g)) ≤ s.figures.cb := by
  have alike := s.issueTargets_alike s.figures.targets s.figures.cb
  have distinct := (tables.of_alike alike).grants_distinct
  have rows : (s.issueTargets s.figures.targets s.figures.cb).gt.grants.map (·.g) =
      (s.bt.bays.map (·.number)).map fun k => ((s.issueTargets s.figures.targets s.figures.cb).grant k).g := by
    rw [← tables.grant_bays, ← alike.grants, List.map_map]
    exact List.map_congr_left fun y hy => (congrArg GrantRec.g (State.grant_of_mem distinct hy)).symm
  calc total ((s.issueTargets s.figures.targets s.figures.cb).gt.grants.map (·.g))
      ≤ total ((s.bt.bays.map (·.number)).map fun k => (targetOf s.figures.targets k).getD 0) := by
        rw [rows, List.map_map, List.map_map]
        exact List.sum_le_sum fun b hb => (hs.issued tables linked present hb rfl).2.2
    _ ≤ total (s.figures.targets.map (·.2)) := total_targetOf_le tables.bays_distinct _
    _ ≤ s.figures.cb := State.figures_targets_le linked

end Issue

theorem State.issueTargets_isPresent (tables : s.TablesOk) (l : List (Nat × Nat)) (cb : Nat) (p : Port) :
    (s.issueTargets l cb).isPresent p = s.isPresent p := by
  obtain ⟨kept, taken⟩ := s.issueTargets_epoch l cb tables
  by_cases h : s.Reissues l cb
  · rw [State.isPresent, State.port, (taken h).2]
    exact s.raise_isPresent ..
  · rw [State.isPresent, State.port, (kept h).2]
    rfl

/-- What a round leaves of the site, the configuration and the bays, and its record's budget (R84, R89). -/
theorem State.round_surroundings (s : State) : s.round.site = s.site ∧ s.round.cfg = s.cfg ∧
    s.round.bt.bays = s.bt.bays.map (agedBay s.cfg.agingLimit s.cfg.promotionLength s.figures.shared.targets) ∧
    ∃ r, s.round.al.results = some r ∧ r.cb = s.figures.cb := by
  have bays := s.round_blocks.1
  have record : ∃ r, s.round.al.results = some r ∧ r.cb = s.figures.cb := by
    rw [s.round_written rfl]
    exact ⟨_, rfl, rfl⟩
  rw [s.agedForRound_bt] at bays
  obtain ⟨bt, al, gt, so, sp, h⟩ := s.round_frame
  rw [h] at bays record ⊢
  exact ⟨rfl, rfl, congrArg BayTable.bays bays, record⟩

theorem agedBay_connectorMax (aging promotion : Nat) (targets : List (Nat × Nat)) (b : BayRec) :
    (agedBay aging promotion targets b).connectorMax = b.connectorMax := by
  unfold agedBay
  split
  · rfl
  · simp only [BayRec.age, apply_ite BayRec.connectorMax, ite_self]

/-- A round that hands no targets off leaves every issued grant 0 (R74, R95). -/
theorem State.GrantsOk.round_absent (hs : s.GrantsOk) (run : s.site = .run) (absent : s.isPresent .network = false) :
    s.round.GrantsOk := by
  obtain ⟨site, cfg, -, -⟩ := s.round_surroundings
  obtain ⟨grants, bays, -, -⟩ := s.round_absent absent
  refine .of_zero (fun x hx => hs.lapsed absent x (grants ▸ hx)) (fun b hb outside => ?_) fun h =>
    nomatch run.symm.trans (site.symm.trans h)
  rw [State.grant_of_gt grants]
  rw [State.inService, State.isKnown, cfg] at outside
  exact ((hs.each b (bays ▸ hb)).idle outside).2

/-- A round that issues its targets keeps the grants in range and within its budget (R95). -/
theorem State.GrantsOk.round_present (hs : s.GrantsOk) (tables : s.TablesOk) (linked : s.Linked) (run : s.site = .run)
    (present : s.isPresent .network = true) : s.round.GrantsOk := by
  obtain ⟨site, cfg, bays, r, results, cb⟩ := s.round_surroundings
  obtain ⟨grants, port⟩ := s.round_present present
  exact {
    each := fun c hc => by
      obtain ⟨b, hb, rfl⟩ := List.mem_map.1 (bays ▸ hc)
      obtain ⟨number, state⟩ := Prod.mk.inj
        (agedBay_number_state s.cfg.agingLimit s.cfg.promotionLength s.figures.shared.targets b)
      obtain ⟨range, idle, -⟩ := hs.issued tables linked present hb rfl
      constructor
      · rw [number, State.grant_of_gt grants, State.bayMax, agedBay_connectorMax, cfg]
        exact range
      · rw [number, State.grant_of_gt grants, State.inService, State.isKnown, number, state, cfg]
        exact idle
    budget := fun r' hr => by
      cases results.symm.trans hr
      rw [grants, cb]
      exact hs.issued_total tables linked present
    before := fun none => nomatch results.symm.trans none
    lapsed := fun absent => by
      have kept := s.issueTargets_isPresent tables s.figures.targets s.figures.cb .network
      rw [State.isPresent, State.port] at absent kept
      rw [show s.round.sp.get .network = _ from port] at absent
      exact nomatch (absent.symm.trans kept).trans present
    configure := fun h => nomatch run.symm.trans (site.symm.trans h) }

/-! ### The tick (R4) -/

theorem State.tickLimits_steady {out : Nat → Prop} (s : State) : s.Steady out s.tickLimits := by
  have pending : s.Steady out s.takePending := by
    unfold State.takePending
    split
    · exact State.Steady.trans (t := { s with ls := _ }) {} (State.raise_steady _ _ _ _ _)
    · exact .refl s
  have rebuilt : s.takePending.Steady out s.takePending.rebuildSafe := {}
  have chosen : s.takePending.rebuildSafe.Steady out s.takePending.rebuildSafe.chooseActive := by
    obtain ⟨ls, h⟩ := s.takePending.rebuildSafe.chooseActive_frame
    rw [h]
    exact {}
  exact (pending.trans rebuilt).trans chosen

/-- What a tick does before its round leaves the grants steady (R4, R10, R36, R57). -/
theorem State.prepared_steady {out : Nat → Prop} (s : State) : s.Steady out s.comeToTick.tickLimits.tickGuard.markStale := by
  have come : s.Steady out s.comeToTick := by
    obtain ⟨jl, tb, h⟩ := s.comeToTick_frame
    rw [h]
    exact {}
  have guard (t : State) : t.Steady out t.tickGuard := by
    obtain ⟨dg, h⟩ := t.tickGuard_frame
    rw [h]
    exact {}
  exact ((come.trans (State.tickLimits_steady _)).trans (guard _)).trans (State.markStale_steady _)

/-- It keeps the tables and the bindings too. -/
theorem State.prepared_linked (tables : s.TablesOk) (kept : s.Kept False) :
    s.comeToTick.tickLimits.tickGuard.markStale.TablesOk ∧ s.comeToTick.tickLimits.tickGuard.markStale.Linked := by
  have limited := tablesOk_lasting.tickLimits _ (tables.of_alike s.comeToTick_alike)
  have bound := (kept.of_unmoved s.comeToTick_unmoved).of_unmoved (State.tickLimits_unmoved _)
  exact ⟨(limited.of_alike (State.tickGuard_alike _)).of_alike (State.markStale_alike _),
    ((bound.of_unmoved (State.tickGuard_unmoved _)).of_unmoved (State.markStale_unmoved _)).1⟩

theorem State.scheduleNext_steady (s : State) : s.Steady (fun _ => False) s.scheduleNext := {}

theorem State.GrantsOk.tick (hs : s.GrantsOk) (tables : s.TablesOk) (kept : s.Kept False) (run : s.isRun = true) :
    s.tick.GrantsOk := by
  obtain ⟨q, hq, -⟩ := s.prepared_keeps
  have taken : s.tick = q.round.scheduleNext := by rw [← hq]; rfl
  have steady := s.prepared_steady (out := fun _ => False)
  obtain ⟨shape, linked⟩ := State.prepared_linked tables kept
  rw [hq] at steady shape linked
  have grants := hs.steady steady
  have inRun : q.site = .run := steady.site.trans ((s.isRun_iff).1 run)
  have round : q.round.GrantsOk := by
    cases present : q.isPresent .network with
    | true => exact grants.round_present shape linked inRun present
    | false => exact grants.round_absent inRun present
  rw [taken]
  exact round.steady (State.scheduleNext_steady q.round)

/-! ### The site state and the resets (R104, R171 to R173) -/

theorem State.site_of_not_run (h : s.isRun = false) : s.site = .configure := by
  cases site : s.site with
  | configure => rfl
  | run => exact absurd ((s.isRun_iff).2 site) (by rw [h]; exact Bool.false_ne_true)

theorem State.GrantsOk.lapse (hs : s.GrantsOk) (tables : s.TablesOk) :
    (if s.isRun then (s.lapsePort .network).lapseTreatment else s.lapsePort .network).GrantsOk := by
  split
  · next run =>
    exact State.lapseTreatment_grantsOk (s := s.lapsePort .network) tables.bays_distinct ((s.isRun_iff).1 run)
      fun x hx outside => hs.unserved tables hx outside
  · next run =>
    have clear := hs.configure (State.site_of_not_run (by simpa using run))
    exact State.GrantsOk.of_clear (s := s.lapsePort .network) clear

/-- The site in RUN with its blocks committed, before the lapse treatment of the grants (R171). -/
def State.startedBlocks (s : State) : State :=
  ({ s with site := .run } : State).freshenBays.zeroEpochs.commitLimits.openFirstWindow.commitAllocator.startSchedule

theorem State.commitBlocks_eq (s : State) : s.commitBlocks = s.startedBlocks.lapseTreatment := rfl

theorem State.GrantsOk.commit (hs : s.GrantsOk) (tables : s.TablesOk) (run : s.isRun = false) : s.commit.GrantsOk := by
  have clear := hs.configure (State.site_of_not_run run)
  have distinct : (s.startedBlocks.bt.bays.map (·.number)).Nodup := by
    have same : s.startedBlocks.bt.bays.map (·.number) = s.bt.bays.map (·.number) :=
      (s.mapBays_alike (fun b => if s.cfg.bayCount < b.number then BayRec.fresh b.number else b)
        fun b => by split <;> rfl).bays
    rw [same]
    exact tables.bays_distinct
  have unserved : ∀ x ∈ s.startedBlocks.gt.grants, s.startedBlocks.isInService x.bay = false → x.g = 0 ∧ x.a = 0 := fun y hy _ => by
    obtain ⟨x, hx, rfl⟩ := List.mem_map.1 hy
    exact clear x hx
  have treated : s.commitBlocks.GrantsOk := s.commitBlocks_eq ▸ State.lapseTreatment_grantsOk distinct rfl unserved
  have zero : ∀ x ∈ s.commitBlocks.gt.grants, x.g = 0 := s.commitBlocks_eq ▸ State.lapseTreatment_zero unserved
  have lapses {t : State} (p : Port) (ht : t.GrantsOk ∧ ∀ x ∈ t.gt.grants, x.g = 0) :
      (t.lapsePresent p).GrantsOk ∧ ∀ x ∈ (t.lapsePresent p).gt.grants, x.g = 0 := by
    obtain ⟨⟨each, budget, before, -, configure⟩, zero⟩ := ht
    obtain ⟨sp, h⟩ := t.lapsePresent_frame p
    rw [h]
    exact ⟨⟨fun b hb => ⟨(each b hb).range, (each b hb).idle⟩, budget, before, fun _ => zero, configure⟩, zero⟩
  exact (lapses .energy (lapses .till (lapses .network ⟨treated, zero⟩))).1

theorem State.GrantsOk.restart (hs : s.GrantsOk) (tables : s.TablesOk) (straps : Straps) : (s.restart straps).GrantsOk := by
  have service (k : Nat) : (s.restore straps).isInService k = s.isInService k :=
    State.isInService_of_map (s := s) (t := s.restore straps) rfl rfl (fun _ => rfl) (fun _ => Iff.rfl) k
  have distinct : ((s.restore straps).bt.bays.map (·.number)).Nodup := by
    show ((s.bt.bays.map BayRec.restart).map (·.number)).Nodup
    rw [List.map_map]
    exact tables.bays_distinct
  unfold State.restart
  dsimp only
  split
  · next run =>
    refine State.lapseTreatment_grantsOk distinct ((s.isRun_iff).1 run) fun y hy outside => ?_
    obtain ⟨x, hx, rfl⟩ := List.mem_map.1 hy
    exact hs.unserved (x := x) tables hx ((service x.bay).symm.trans outside)
  · next run =>
    have clear := hs.configure (State.site_of_not_run (by simpa using run))
    refine .of_clear fun y hy => ?_
    obtain ⟨x, hx, rfl⟩ := List.mem_map.1 hy
    exact clear x hx

/-! ### The law -/

theorem grantsOk_law : GrantLaw (fun s => s.TablesOk ∧ s.Kept False) State.GrantsOk where
  arrive_context s p h := ⟨h.1.of_alike (s.arrive_alike p), h.2.of_unmoved (s.arrive_unmoved p)⟩
  entry_context s x run h := ⟨h.1.of_alike (s.takeEntry_alike x), h.2.takeEntry ((s.isRun_iff).1 run) x⟩
  steady h hs := hs.steady h
  arrive s p hs := hs.arrive p
  refresh s b x hb h hs := hs.refreshBay h.1 hb
  outGrant s t k h hs := hs.outGrant k h
  acknowledge s e _ hs := hs.settled (settling_ackGrant s.tb.ms e) (.refl s) rfl
  expireOverdue s k hs := hs.expireOverdue k
  lapse s h hs := hs.lapse h.1
  takeConfig s cfg run hs := .of_clear (s := s.takeConfig cfg) (hs.configure (State.site_of_not_run run))
  commit s run h hs := hs.commit h.1 run
  configure s _ := .of_clear fun y hy => by
    obtain ⟨dg, sp, h⟩ := s.configureCut_frame
    unfold State.configure at hy
    rw [h] at hy
    obtain ⟨x, -, rfl⟩ := List.mem_map.1 hy
    exact ⟨rfl, rfl⟩
  tick s run h hs := hs.tick h.1 h.2 run
  powerUp := State.powerUp_grantsOk
  restart s straps h hs := hs.restart h.1 straps

/-- Settles O60: the laws of the grants lean on the tables and on the bindings that stand before the step. -/
theorem stepKeepsGrantLaws : Obligations.StepKeepsGrantLaws := by
  intro s t tables sessions bindings hs
  have kept : s.Kept False := ⟨bindings.linked tables sessions, False.elim⟩
  exact grantsOk_law.step (fun rest => ⟨tables.of_alike (s.alike_records s.jl s.held s.st s.vl s.rq s.sp rest),
    kept.of_unmoved {}⟩) hs

end Sys2Proof.Machine
end

section
/-! The energy of one session: the limits of an increment, the credit that it spends, and the band entry in which its rest
is filed (R119 to R121). -/

namespace Sys2Proof.Machine

/-! ### Band entries (R121) -/

/-- An entry has the key of a band (R121). -/
def BandEntry.Keyed (index price : Nat) (e : BandEntry) : Prop :=
  e.index = index ∧ e.price = price

/-- The entry with energy added. -/
def BandEntry.add (wh : Nat) (e : BandEntry) : BandEntry :=
  { e with wh := e.wh + wh }

section Filing

variable {index price wh : Nat} {band : Band} {rest : Nat} {l r : List BandEntry} {e : BandEntry}

theorem hasKey_iff : hasKey index price l = true ↔ ∃ e ∈ l, e.Keyed index price := by
  simp [hasKey, BandEntry.Keyed]

theorem hasKey_false_iff : hasKey index price l = false ↔ ∀ e ∈ l, ¬ e.Keyed index price := by
  rw [← Bool.not_eq_true, hasKey_iff]
  simp

/-- The energy goes to the first entry with the key. -/
theorem addToKey_first (before : ∀ d ∈ l, ¬ d.Keyed index price) (he : e.Keyed index price) :
    addToKey index price wh (l ++ e :: r) = l ++ e.add wh :: r := by
  induction l with
  | nil => exact if_pos he
  | cons d l ih =>
    obtain ⟨first, before⟩ := List.forall_mem_cons.1 before
    exact (if_neg first).trans (congrArg (d :: ·) (ih before))

theorem addToLast_concat (wh : Nat) (l : List BandEntry) (e : BandEntry) :
    addToLast wh (l ++ [e]) = l ++ [e.add wh] := by
  induction l with
  | nil => rfl
  | cons d l ih =>
    cases l with
    | nil => rfl
    | cons c l => exact congrArg (d :: ·) ih

/-- A list with a key has a first entry with it. -/
theorem exists_first_keyed (h : ∃ e ∈ l, e.Keyed index price) :
    ∃ m e r, l = m ++ e :: r ∧ (∀ d ∈ m, ¬ d.Keyed index price) ∧ e.Keyed index price := by
  induction l with
  | nil => simp at h
  | cons d l ih =>
    by_cases hd : d.Keyed index price
    · exact ⟨[], d, l, rfl, List.forall_mem_nil _, hd⟩
    · obtain ⟨m, e, r, rfl, before, he⟩ := ih (by simpa [hd] using h)
      exact ⟨d :: m, e, r, rfl, List.forall_mem_cons.2 ⟨hd, before⟩, he⟩

theorem fileRest_zero : fileRest index band 0 l = (l, false) := rfl

theorem fileRest_first (hr : rest ≠ 0) (before : ∀ d ∈ l, ¬ d.Keyed index band.price) (he : e.Keyed index band.price) :
    fileRest index band rest (l ++ e :: r) = (l ++ e.add rest :: r, false) := by
  have key : hasKey index band.price (l ++ e :: r) = true := hasKey_iff.2 ⟨e, by simp, he⟩
  rw [fileRest, if_neg hr, if_pos key, addToKey_first before he]

theorem fileRest_new (hr : rest ≠ 0) (none : ∀ d ∈ l, ¬ d.Keyed index band.price) (room : l.length < 8) :
    fileRest index band rest l = (l ++ [⟨index, band.price, band.peak, rest⟩], false) := by
  have key := ne_true_of_eq_false (hasKey_false_iff.2 none)
  rw [fileRest, if_neg hr, if_neg key, Config.bandEntrySize, if_pos room]

theorem fileRest_last (hr : rest ≠ 0) (none : ∀ d ∈ l ++ [e], ¬ d.Keyed index band.price) (full : 8 ≤ (l ++ [e]).length) :
    fileRest index band rest (l ++ [e]) = (l ++ [e.add rest], true) := by
  have key := ne_true_of_eq_false (hasKey_false_iff.2 none)
  rw [fileRest, if_neg hr, if_neg key, Config.bandEntrySize, if_neg (Nat.not_lt.2 full), addToLast_concat]

/-- What a filing can do (R121): nothing without a rest; else the first entry with the key takes the rest, or a new last
entry, or the last entry of a full list, which is a merge. -/
theorem fileRest_cases (index : Nat) (band : Band) (rest : Nat) (l : List BandEntry) :
    (rest = 0 ∧ fileRest index band rest l = (l, false)) ∨
    (∃ m e r, l = m ++ e :: r ∧ fileRest index band rest l = (m ++ e.add rest :: r, false)) ∨
    ((∀ d ∈ l, ¬ d.Keyed index band.price) ∧ l.length < 8 ∧
      fileRest index band rest l = (l ++ [⟨index, band.price, band.peak, rest⟩], false)) ∨
    (∃ m e, l = m ++ [e] ∧ (∀ d ∈ l, ¬ d.Keyed index band.price) ∧ 8 ≤ l.length ∧
      fileRest index band rest l = (m ++ [e.add rest], true)) := by
  by_cases hr : rest = 0
  · exact .inl ⟨hr, by rw [hr, fileRest_zero]⟩
  by_cases key : ∃ e ∈ l, e.Keyed index band.price
  · obtain ⟨m, e, r, rfl, before, he⟩ := exists_first_keyed key
    exact .inr (.inl ⟨m, e, r, rfl, fileRest_first hr before he⟩)
  have none : ∀ d ∈ l, ¬ d.Keyed index band.price := fun d hd he => key ⟨d, hd, he⟩
  by_cases room : l.length < 8
  · exact .inr (.inr (.inl ⟨none, room, fileRest_new hr none room⟩))
  · have full := Nat.not_lt.1 room
    rcases List.eq_nil_or_concat' l with rfl | ⟨m, e, rfl⟩
    · exact absurd full (by decide)
    · exact .inr (.inr (.inr ⟨m, e, rfl, none, full, fileRest_last hr none full⟩))

/-- What is filed is what the entries gain. -/
theorem fileRest_total (index : Nat) (band : Band) (rest : Nat) (l : List BandEntry) :
    total ((fileRest index band rest l).1.map (·.wh)) = total (l.map (·.wh)) + rest := by
  rcases fileRest_cases index band rest l with ⟨rfl, h⟩ | ⟨m, e, r, rfl, h⟩ | ⟨_, _, h⟩ | ⟨m, e, rfl, _, _, h⟩
  all_goals
    rw [h]
    simp only [total_eq_sum, List.map_append, List.map_cons, List.map_nil, List.sum_append, List.sum_cons, List.sum_nil,
      BandEntry.add]
    omega

/-- A filing keeps the keys, but for a new one at the end of a list with room. -/
theorem fileRest_keys (index : Nat) (band : Band) (rest : Nat) (l : List BandEntry) :
    (fileRest index band rest l).1.map (fun e => (e.index, e.price)) = l.map (fun e => (e.index, e.price)) ∨
    (l.length < 8 ∧ (index, band.price) ∉ l.map (fun e => (e.index, e.price)) ∧
      (fileRest index band rest l).1.map (fun e => (e.index, e.price)) =
        l.map (fun e => (e.index, e.price)) ++ [(index, band.price)]) := by
  rcases fileRest_cases index band rest l with ⟨_, h⟩ | ⟨m, e, r, rfl, h⟩ | ⟨none, room, h⟩ | ⟨m, e, rfl, _, _, h⟩
  · exact .inl (by rw [h])
  · exact .inl (by simp [h, BandEntry.add])
  · refine .inr ⟨room, fun mem => ?_, by simp [h]⟩
    obtain ⟨e, he, key⟩ := List.mem_map.1 mem
    exact none e he (Prod.mk.inj key)
  · exact .inl (by simp [h, BandEntry.add])

/-- Only a full list without the key is merged into. -/
theorem fileRest_unmerged (h : (∃ e ∈ l, e.Keyed index band.price) ∨ l.length < 8) :
    (fileRest index band rest l).2 = false := by
  rcases fileRest_cases index band rest l with ⟨_, e⟩ | ⟨_, _, _, _, e⟩ | ⟨_, _, e⟩ | ⟨_, _, _, none, full, _⟩
  · rw [e]
  · rw [e]
  · rw [e]
  · rcases h with ⟨d, hd, key⟩ | room
    · exact absurd key (none d hd)
    · omega

end Filing

/-! ### Increments (R119, R120) -/

section Increment

variable (x : Session) (reading dt connectorMax : Nat) (key : Nat × Band)

/-- The increment of a reading at or above the base: its rise, within the limits of the connector and of metered Wh (R119). -/
def Session.increment : Nat :=
  min (min (reading - x.base) (min (connectorMax * dt / 28800 + 10) 4294967295)) (4294967295 - x.metered)

variable {x reading}

theorem Session.takeReading_below (h : reading < x.base) : x.takeReading reading dt connectorMax key =
    { x with base := reading, flags := { x.flags with meterBack := true } } :=
  if_pos h

theorem Session.takeReading_above (h : x.base ≤ reading) : x.takeReading reading dt connectorMax key =
    Session.takeIncrement (x.increment reading dt connectorMax) key { x with
      base := reading
      flags := { x.flags with
        clamped := x.flags.clamped || decide (x.increment reading dt connectorMax < reading - x.base) } } := by
  have cut : (rawIncrement x.base reading connectorMax dt < reading - x.base ∨
      min (rawIncrement x.base reading connectorMax dt) (Config.maxWord - x.metered) <
        rawIncrement x.base reading connectorMax dt) ↔ x.increment reading dt connectorMax < reading - x.base := by
    show _ ↔ min (rawIncrement x.base reading connectorMax dt) (Config.maxWord - x.metered) < _
    have : rawIncrement x.base reading connectorMax dt ≤ reading - x.base := Nat.min_le_left _ _
    omega
  rw [Session.takeReading, if_neg (Nat.not_lt.2 h)]
  simp only [cut]
  rfl

end Increment

/-! ### The balance of a session (R119, R120) -/

/-- The balance reads the energy, the credit and the voucher alone. -/
theorem Session.Balanced.of_same {x y : Session} (h : x.Balanced) (metered : y.metered = x.metered := by rfl)
    (free : y.free = x.free := by rfl) (bands : y.bands = x.bands := by rfl)
    (granted : y.creditGranted = x.creditGranted := by rfl) (left : y.creditLeft = x.creditLeft := by rfl)
    (voucher : y.voucher = x.voucher := by rfl) (withdrawn : y.flags.withdrawn = x.flags.withdrawn := by rfl) :
    y.Balanced where
  sum := by rw [metered, free, bands]; exact h.sum
  range := by rw [metered]; exact h.range
  entries := by rw [bands]; exact h.entries
  keys := by rw [bands]; exact h.keys
  spent := by rw [free, granted]; exact h.spent
  left := by rw [left, granted, free, withdrawn]; exact h.left
  unclaimed := by rw [voucher, granted]; exact h.unclaimed

section Balance

variable {x : Session} (h : x.Balanced)
include h

theorem Session.Balanced.takeIncrement {inc : Nat} (range : x.metered + inc ≤ Config.maxWord) (key : Nat × Band) :
    (x.takeIncrement inc key).Balanced where
  sum := by
    have sum := h.sum
    have filed := fileRest_total key.1 key.2 (inc - min inc x.creditLeft) x.bands
    simp only [Session.takeIncrement, filed]
    omega
  range := range
  entries := by
    have entries : x.bands.length ≤ 8 := h.entries
    rcases fileRest_keys key.1 key.2 (inc - min inc x.creditLeft) x.bands with same | ⟨room, _, more⟩
    · have length := congrArg List.length same
      simp only [List.length_map] at length
      exact length.trans_le entries
    · have length := congrArg List.length more
      simp only [List.length_map, List.length_append, List.length_singleton] at length
      exact length.trans_le room
  keys := by
    show ((fileRest _ _ _ _).1.map _).Nodup
    rcases fileRest_keys key.1 key.2 (inc - min inc x.creditLeft) x.bands with same | ⟨_, fresh, more⟩
    · rw [same]
      exact h.keys
    · rw [more]
      exact h.keys.append (List.nodup_singleton _) (by simpa using fresh)
  spent := by
    have spent := h.spent
    simp only [Session.takeIncrement]
    rcases h.left with left | ⟨_, none⟩ <;> omega
  left := by
    simp only [Session.takeIncrement]
    rcases h.left with left | ⟨withdrawn, none⟩
    · left
      omega
    · right
      exact ⟨withdrawn, by omega⟩
  unclaimed := h.unclaimed

theorem Session.Balanced.takeReading (reading dt connectorMax : Nat) (key : Nat × Band) :
    (x.takeReading reading dt connectorMax key).Balanced := by
  rcases Nat.lt_or_ge reading x.base with below | above
  · rw [Session.takeReading_below dt connectorMax key below]
    exact h.of_same
  · have range : x.metered + x.increment reading dt connectorMax ≤ Config.maxWord := by
      have := h.range
      have : x.increment reading dt connectorMax ≤ Config.maxWord - x.metered := Nat.min_le_right _ _
      omega
    rw [Session.takeReading_above dt connectorMax key above]
    exact Session.Balanced.takeIncrement (x := { x with base := reading, flags := _ }) h.of_same range key

/-- A session without a voucher has spent no credit, and may be given any (R136). -/
theorem Session.Balanced.claim (none : x.voucher = none) (n credit : Nat) :
    Session.Balanced { x with voucher := some n, creditGranted := credit, creditLeft := credit } := by
  have free : x.free = 0 := Nat.le_zero.1 (h.unclaimed none ▸ h.spent)
  refine ⟨h.sum, h.range, h.entries, h.keys, ?_, .inl ?_, nofun⟩
  · exact free ▸ Nat.zero_le _
  · show credit = credit - x.free
    rw [free, Nat.sub_zero]

/-- A withdrawal takes the credit that is left (R138). -/
theorem Session.Balanced.withdraw :
    Session.Balanced { x with creditLeft := 0, flags := { x.flags with withdrawn := true } } :=
  ⟨h.sum, h.range, h.entries, h.keys, h.spent, .inr ⟨rfl, rfl⟩, h.unclaimed⟩

end Balance

/-- A new session is balanced (R117). -/
theorem State.newSession_balanced (s : State) (k base : Nat) : (s.newSession k base).Balanced :=
  ⟨rfl, Nat.zero_le _, Nat.zero_le _, List.nodup_nil, le_rfl, .inl rfl, fun _ => rfl⟩

/-- Settles O27: the equation of a reading, then the three ways a rest is filed. -/
theorem readingBecomesIncrement : Obligations.ReadingBecomesIncrement := by
  refine ⟨fun reading dt connectorMax key x => ⟨x.takeReading_below dt connectorMax key, fun above => ?_⟩,
    fun reading dt connectorMax key x above => ?_⟩
  · have unmerged {rest : Nat} (h : (∃ e ∈ x.bands, e.Keyed key.1 key.2.price) ∨ x.bands.length < 8) :
        (x.flags.tariffMerged || (fileRest key.1 key.2 rest x.bands).2) = x.flags.tariffMerged := by
      rw [fileRest_unmerged h, Bool.or_false]
    dsimp only
    rw [x.takeReading_above dt connectorMax key above]
    refine ⟨rfl, fileRest_total _ _ _ _, fun none => ?_, fun e he index price => unmerged (.inl ⟨e, he, index, price⟩),
      fun room => unmerged (.inr room)⟩
    simp only [Session.takeIncrement, Session.increment]
    rw [← none, Nat.sub_self, fileRest_zero]
    exact ⟨rfl, Bool.or_false _⟩
  · dsimp only
    rw [x.takeReading_above dt connectorMax key above]
    simp only [Session.takeIncrement, Nat.add_sub_cancel_left]
    intro rest
    refine ⟨fun l e r bands before named => ?_, fun none room => ?_, fun l e none full bands => ?_⟩
    · rw [bands, fileRest_first rest before named]
      rfl
    · rw [fileRest_new rest none room]
    · rw [bands] at none full ⊢
      rw [fileRest_last rest none full]
      exact ⟨rfl, Bool.or_true _⟩

end Sys2Proof.Machine
end

section
/-! The number of a new session (R116). -/

namespace Sys2Proof.Machine

/-- The numbers that follow a number begin with the one after it. -/
theorem repeat_nextNumber_succ (k n : Nat) :
    Nat.repeat nextNumber k (nextNumber n) = Nat.repeat nextNumber (k + 1) n := by
  induction k with
  | zero => rfl
  | succ k ih => exact congrArg nextNumber ih

/-- The search passes the held numbers in turn and stops at the first that is not held, or when it may pass no more. -/
theorem freeNumber_in_turn (held : List Nat) (fuel n : Nat) :
    ∃ k ≤ fuel, freeNumber held fuel n = Nat.repeat nextNumber k n ∧ ∀ j < k, Nat.repeat nextNumber j n ∈ held := by
  induction fuel generalizing n with
  | zero => exact ⟨0, le_rfl, rfl, nofun⟩
  | succ fuel ih =>
    unfold freeNumber
    split
    · next first =>
      obtain ⟨k, le, found, passed⟩ := ih (nextNumber n)
      refine ⟨k + 1, Nat.succ_le_succ le, found.trans (repeat_nextNumber_succ k n), fun j hj => ?_⟩
      cases j with
      | zero => exact List.contains_iff_mem.1 first
      | succ j => exact repeat_nextNumber_succ j n ▸ passed j (Nat.lt_of_succ_lt_succ hj)
    · exact ⟨0, Nat.zero_le _, rfl, nofun⟩

/-- Settles O22: the search in turn finds a number, which is free in a table within its size. -/
theorem newSessionNumberIsFree : Obligations.NewSessionNumberIsFree := by
  intro s _ sessions
  obtain ⟨free, low, high⟩ := State.newNumber_free sessions.size sessions.next
  obtain ⟨k, le, found, passed⟩ :=
    freeNumber_in_turn (s.st.sessions.map (·.number)) s.st.sessions.length s.st.nextSession
  refine ⟨free, low, high, fun first => ?_, k, le, found, passed⟩
  cases k with
  | zero => exact found
  | succ k => exact absurd (passed 0 k.succ_pos) first

end Sys2Proof.Machine
end

section
/-! READ SESSION (R128). -/

namespace Sys2Proof.Machine

variable {s : State}

theorem State.arrive_lookup (s : State) (p : Port) : (s.arrive p).lookup = s.lookup := by
  obtain ⟨gt, rq, sp, h⟩ := s.arrive_frame p
  rw [h]
  rfl

/-- The answer of READ SESSION, sent on the port that asks. -/
theorem exec_readSession {t : State} {p : Port} (hp : p = .network ∨ p = .energy) (hr : s.Ready p) (tag : Byte)
    {body : Body SessionSelector} {st : Status} {r : Reply} (answer : handleReadSession body (s.arrive p) = (t, st, r)) :
    exec (.readSession p tag body) s = .next (t.respond p tag 0x1A st r) := by
  show (.next (takeRequest _ p tag 0x1A _ s) : Host.Outcome State Fault Refusal) = _
  rw [takeRequest_taken s _ _ _ _ _ hr.1 hr.2 (by simpa using hp), answer]

theorem handleReadSession_number {v : Half} (hv : v ≠ 0) : handleReadSession (.fields (.number v)) s = readNumber v.toNat s :=
  if_neg hv

theorem handleReadSession_unknown {k : Half} (hk : ¬ (1 ≤ k.toNat ∧ k.toNat ≤ s.cfg.bayCount)) :
    handleReadSession (.fields (.bay k)) s = (s, .unknownBay, .empty) := by
  simp only [handleReadSession, State.isKnown, hk]
  rfl

/-- A known bay that names a session asks for that session. -/
theorem handleReadSession_bay {k : Half} {b : BayRec} (hk : 1 ≤ k.toNat ∧ k.toNat ≤ s.cfg.bayCount)
    (hb : s.bay k.toNat = some b) {n : Nat} (hn : b.session = some n) :
    handleReadSession (.fields (.bay k)) s = readNumber n s := by
  simp only [handleReadSession, State.isKnown_of_range hk.1 hk.2, hb, Option.bind_some, hn]
  rfl

theorem handleReadSession_bay_none {k : Half} {b : BayRec} (hk : 1 ≤ k.toNat ∧ k.toNat ≤ s.cfg.bayCount)
    (hb : s.bay k.toNat = some b) (hn : b.session = none) :
    handleReadSession (.fields (.bay k)) s = (s, .empty, .empty) := by
  simp only [handleReadSession, State.isKnown_of_range hk.1 hk.2, hb, Option.bind_some, hn]
  rfl

theorem readNumber_some {n : Nat} {x : Session} (h : s.session n = some x) :
    readNumber n s = (s, .ok, .session (s.sessionReply x)) := by
  rw [readNumber, h]

theorem readNumber_none {n : Nat} (h : s.session n = none) : readNumber n s = (s, .empty, .empty) := by
  rw [readNumber, h]
  rfl

theorem State.sessionReply_place {n : Nat} {x : Session} (hx : s.session n = some x) :
    1 ≤ (s.sessionReply x).place ∧ s.st.sessions[(s.sessionReply x).place - 1]? = some x := by
  obtain ⟨_, rfl⟩ := s.mem_of_session hx
  obtain ⟨i, place, at_i⟩ := placeOf_of_find? hx
  rw [State.sessionReply, place]
  exact ⟨Nat.succ_pos i, at_i⟩

/-- Settles O32: the answer for a record that is found, and then each refusal. -/
theorem readSessionReturnsRecord : Obligations.ReadSessionReturnsRecord := by
  intro p tag s hp hr
  have answer {body : Body SessionSelector} {st : Status} {r : Reply} :=
    exec_readSession (t := s.arrive p) hp hr tag (body := body) (st := st) (r := r)
  have known {k : Half} : 1 ≤ k.toNat ∧ k.toNat ≤ s.cfg.bayCount → 1 ≤ k.toNat ∧ k.toNat ≤ (s.arrive p).cfg.bayCount := by
    rw [s.arrive_cfg]
    exact id
  refine ⟨fun sel n x hx hsel => ?_, fun v hv none => ?_, fun k b hk hb none => ?_, fun k hk => ?_, answer rfl, answer rfl,
    answer rfl⟩
  · have found := (s.arrive_session p n).trans hx
    have record : handleReadSession (.fields sel) (s.arrive p) = (s.arrive p, .ok, .session ((s.arrive p).sessionReply x)) := by
      rcases hsel with ⟨v, hv, rfl, rfl⟩ | ⟨k, b, hk, hb, hn, rfl⟩
      · rw [handleReadSession_number hv, readNumber_some found]
      · rw [handleReadSession_bay (known hk) ((s.arrive_bay p _).trans hb) hn, readNumber_some found]
    obtain ⟨first, place⟩ := State.sessionReply_place found
    refine ⟨(s.arrive p).sessionReply x, answer record, rfl, first, s.arrive_st p ▸ place, fun opened => ?_, fun pending => ?_⟩
    · simp only [State.sessionReply, opened, s.arrive_lookup, if_true, reduceCtorEq, if_false, and_self]
    · simp only [State.sessionReply, pending, s.arrive_st, if_true, reduceCtorEq, if_false, and_self]
  · exact answer ((handleReadSession_number hv).trans (readNumber_none ((s.arrive_session p _).trans none)))
  · exact answer (handleReadSession_bay_none (known hk) ((s.arrive_bay p _).trans hb) none)
  · exact answer (handleReadSession_unknown ((s.arrive_cfg p).symm ▸ hk))

end Sys2Proof.Machine
end

section
/-! What the laws of the sessions and the vouchers read of a state, and the operations that leave all of it alone. -/

namespace Sys2Proof.Machine

/-! ### States with the same books -/

/-- Two states have the same sessions and vouchers, and as many slots. -/
structure State.SameBooks (s t : State) : Prop where
  slots : t.sessionSlots = s.sessionSlots := by rfl
  st : t.st = s.st := by rfl
  vl : t.vl = s.vl := by rfl

variable {s t u : State}

theorem State.SameBooks.refl (s : State) : s.SameBooks s := {}

theorem State.SameBooks.of_eq (h : t = s) : s.SameBooks t :=
  h.symm ▸ .refl s

theorem State.SameBooks.trans (h : s.SameBooks t) (h' : t.SameBooks u) : s.SameBooks u where
  slots := h'.slots.trans h.slots
  st := h'.st.trans h.st
  vl := h'.vl.trans h.vl

/-- An alternative leaves the books the same if both its ways do. -/
theorem State.SameBooks.ite {c : Prop} [Decidable c] (h : s.SameBooks t) (h' : s.SameBooks u) :
    s.SameBooks (if c then t else u) := by
  split
  · exact h
  · exact h'

/-! ### Operations that leave the books the same -/

variable (s)

theorem State.arrive_sameBooks (p : Port) : s.SameBooks (s.arrive p) := by
  obtain ⟨gt, rq, sp, h⟩ := s.arrive_frame p
  rw [h]
  exact {}

theorem State.refreshBay_sameBooks (b : BayRec) (x : ReportEntry) : s.SameBooks (s.refreshBay b x) := by
  obtain ⟨bt, gt, sp, h⟩ := s.refreshBay_frame b x
  rw [h]
  exact {}

theorem State.outGrant_sameBooks (k : Nat) : s.SameBooks (s.outGrant k) := by
  obtain ⟨gt, sp, h⟩ := s.outGrant_frame k
  rw [h]
  exact {}

theorem State.takeIn_sameBooks (b : BayRec) : s.SameBooks (s.takeIn b) := by
  obtain ⟨bt, h⟩ := s.takeIn_frame b
  rw [h]
  exact {}

theorem State.expirePresence_sameBooks (p : Port) : s.SameBooks (s.expirePresence p) := by
  obtain ⟨bt, gt, sp, h⟩ := s.expirePresence_frame p
  rw [h]
  exact {}

theorem State.tick_sameBooks : s.SameBooks s.tick := by
  obtain ⟨jl, tb, ls, dg, bt, al, gt, so, sp, h⟩ := s.tick_frame
  rw [h]
  exact {}

theorem State.commit_sameBooks : s.SameBooks s.commit := by
  obtain ⟨site, tb, ls, dg, bt, al, gt, sp, h⟩ := s.commit_frame
  rw [h]
  exact {}

theorem State.configure_sameBooks : s.SameBooks s.configure := by
  obtain ⟨site, tb, dg, al, gt, so, sp, h⟩ := s.configure_frame
  rw [h]
  exact {}

theorem State.sampleChannel_sameBooks (ch : Channel) (level : Bool) : s.SameBooks (s.sampleChannel ch level) := by
  obtain ⟨mi, dg, h⟩ := s.sampleChannel_frame ch level
  rw [h]
  exact {}

theorem State.sampleBound_sameBooks (b : BoundLine) (level : Bool) : s.SameBooks (s.sampleBound b level) := by
  obtain ⟨mi, sp, h⟩ := s.sampleBound_frame b level
  rw [h]
  exact {}

/-- A restart with valid retention keeps the books, and the slots of an unchanged SIZE pair (R168, R173). -/
theorem State.restart_sameBooks (tables : s.TablesOk) {straps : Straps} (valid : s.rd.isValid straps = true) :
    s.SameBooks (s.restart straps) := by
  have restored : s.SameBooks (s.restore straps) :=
    { slots := congrArg (· + Config.spareSlots) (bayCount_of_isValid valid tables).2.2 }
  exact State.SameBooks.ite (restored.trans {}) restored

/-! ### Requests that leave the books the same -/

theorem handlePing_sameBooks (p : Port) (payload : List Byte) : s.SameBooks (handlePing p payload s).1 := by
  unfold handlePing
  split
  · exact .refl s
  · exact State.SameBooks.ite {} (.refl s)

theorem handleReadNotice_sameBooks (p : Port) (payload : List Byte) : s.SameBooks (handleReadNotice p payload s).1 := by
  unfold handleReadNotice
  split
  · exact .refl s
  · next name _ =>
    obtain ⟨sp, h⟩ := s.clearNotice_frame p (s.selectNotice p name)
    dsimp only
    rw [h]
    exact {}

theorem handleSetNoticeMask_sameBooks (p : Port) (payload : List Byte) :
    s.SameBooks (handleSetNoticeMask p payload s).1 := by
  unfold handleSetNoticeMask
  split
  · exact .refl s
  · exact {}

theorem handleWriteConfig_sameBooks (body : Body (List ConfigPair)) : s.SameBooks (handleWriteConfig body s).1 := by
  unfold handleWriteConfig
  split
  · exact .refl s
  · split
    · exact .refl s
    · split
      · exact .refl s
      · exact {}

theorem handleCommitSite_sameBooks (payload : List Byte) : s.SameBooks (handleCommitSite payload s).1 := by
  cases payload with
  | cons b l => exact .refl s
  | nil =>
    simp only [handleCommitSite, bareRequest]
    split
    · exact .refl s
    · split
      · exact .refl s
      · exact s.commit_sameBooks

theorem handleEnterConfigure_sameBooks (payload : List Byte) : s.SameBooks (handleEnterConfigure payload s).1 := by
  cases payload with
  | cons b l => exact .refl s
  | nil =>
    simp only [handleEnterConfigure, bareRequest]
    split
    · exact .refl s
    · split
      · exact s.configure_sameBooks
      · exact .refl s

theorem handleSetLimits_sameBooks (body : Body LimitFields) : s.SameBooks (handleSetLimits body s).1 := by
  unfold handleSetLimits
  split
  · exact .refl s
  · split
    · exact .refl s
    · exact {}

theorem handleSetTariff_sameBooks (body : Body (List BandFields)) : s.SameBooks (handleSetTariff body s).1 := by
  unfold handleSetTariff
  split
  · exact .refl s
  · split
    · exact {}
    · exact .refl s

theorem handleSetClock_sameBooks (payload : List Byte) : s.SameBooks (handleSetClock payload s).1 := by
  unfold handleSetClock
  split
  · exact .refl s
  · next minute seconds _ =>
    obtain ⟨dg, sp, h⟩ := State.clockCut_frame { s with tb := s.tb.setClock minute seconds } s
    refine State.SameBooks.ite ?_ {}
    rw [h]
    exact {}

theorem handleReadSite_sameBooks (payload : List Byte) : s.SameBooks (handleReadSite payload s).1 := by
  cases payload with
  | nil => exact {}
  | cons b l => exact .refl s

theorem handleAckGrants_sameBooks (payload : List Byte) : s.SameBooks (handleAckGrants payload s).1 := by
  unfold handleAckGrants
  split
  · exact .refl s
  · split
    · exact .refl s
    · exact State.SameBooks.ite (.refl s) {}

end Sys2Proof.Machine
end

section
/-! The laws of the sessions and of the vouchers are kept by every operation on them, and so by every step (R114, R116, R119,
R120, R132). -/

namespace Sys2Proof.Machine

variable {s t : State}

/-! ### Sessions (R114 to R126) -/

theorem State.SessionsOk.of_same (hs : s.SessionsOk) (slots : t.sessionSlots = s.sessionSlots := by rfl)
    (st : t.st = s.st := by rfl) : t.SessionsOk := by
  obtain ⟨size, distinct, numbers, next, balanced⟩ := hs
  rw [← st] at size distinct numbers next balanced
  exact ⟨slots ▸ size, distinct, numbers, next, balanced⟩

/-- A session's record changes, and keeps its number and its balance. -/
theorem State.SessionsOk.updSession (hs : s.SessionsOk) {n : Nat} {f : Session → Session}
    (number : ∀ x, (f x).number = x.number)
    (balanced : ∀ x ∈ s.st.sessions, x.number = n → x.Balanced → (f x).Balanced) : (s.updSession n f).SessionsOk where
  size := (SessionTable.setSession_length n f s.st).trans_le hs.size
  distinct := (SessionTable.setSession_numbers number n s.st).symm ▸ hs.distinct
  numbers y hy := by
    have kept : y.number ∈ s.st.sessions.map (·.number) :=
      SessionTable.setSession_numbers number n s.st ▸ List.mem_map_of_mem hy
    obtain ⟨x, hx, e⟩ := List.mem_map.1 kept
    exact e ▸ hs.numbers x hx
  next := hs.next
  balanced y hy := by
    obtain ⟨x, hx, rfl⟩ := List.mem_map.1 hy
    split
    · next e => exact balanced x hx e (hs.balanced x hx)
    · exact hs.balanced x hx

/-- A session opens in a free slot, with a number that is free (R114, R116, R117). -/
theorem State.SessionsOk.openSession (hs : s.SessionsOk) (slot : s.st.sessions.length + 1 ≤ s.sessionSlots)
    (k base : Nat) (state : BayState) (m : Option Nat) : (s.openSession k base state m).SessionsOk := by
  obtain ⟨fresh, range⟩ := State.newNumber_free hs.size hs.next
  have mem {y : Session} (hy : y ∈ s.st.sessions ++ [s.newSession k base]) :
      y ∈ s.st.sessions ∨ y = s.newSession k base := by
    simpa using hy
  exact {
    size := List.length_append.trans_le slot
    distinct := by
      show ((s.st.sessions ++ [s.newSession k base]).map (·.number)).Nodup
      rw [List.map_append]
      exact hs.distinct.append (List.nodup_singleton _) (List.disjoint_singleton.2 fresh)
    numbers := fun y hy => by
      rcases mem hy with hy | rfl
      · exact hs.numbers y hy
      · exact range
    next := nextNumber_range range
    balanced := fun y hy => by
      rcases mem hy with hy | rfl
      · exact hs.balanced y hy
      · exact s.newSession_balanced k base }

theorem State.SessionsOk.dropSession (hs : s.SessionsOk) (n : Nat) : (s.dropSession n).SessionsOk where
  size := (List.length_filter_le _ _).trans hs.size
  distinct := SessionTable.drop_distinct hs.distinct n
  numbers x hx := hs.numbers x (List.mem_of_mem_filter hx)
  next := hs.next
  balanced x hx := hs.balanced x (List.mem_of_mem_filter hx)

theorem State.SessionsOk.admitHead (hs : s.SessionsOk) (slot : s.st.sessions.length + 1 ≤ s.sessionSlots) :
    s.admitHead.SessionsOk := by
  cases list : s.bt.slotWait with
  | nil =>
    rw [s.admitHead_nil list]
    exact hs
  | cons k rest =>
    obtain ⟨base, state, m, _, e⟩ := s.admitHead_eq list
    rw [e]
    exact State.SessionsOk.openSession (s := { s with bt := { s.bt with slotWait := rest } }) hs.of_same slot k base state m

/-- The slot of a receipted session is free for the head of the Slot Wait List (R125, R118). -/
theorem State.SessionsOk.receiptSession (hs : s.SessionsOk) (n : Nat) : (s.receiptSession n).SessionsOk := by
  unfold State.receiptSession
  split
  · exact hs
  · next x hx =>
    obtain ⟨mem, rfl⟩ := s.mem_of_session hx
    have built : (s.buildReceipt x).SessionsOk := hs.of_same
    have left : (s.st.drop x.number).sessions.length + 1 = s.st.sessions.length :=
      length_filter_keyed (key := Session.number) hs.distinct mem
    exact (built.dropSession x.number).admitHead (left.trans_le hs.size)

theorem State.SessionsOk.setPendingOrder (hs : s.SessionsOk) (order : List Nat) :
    State.SessionsOk { s with st := { s.st with pendingOrder := order } } :=
  ⟨hs.size, hs.distinct, hs.numbers, hs.next, hs.balanced⟩

theorem State.SessionsOk.askPlace (hs : s.SessionsOk) (n : Nat) : (s.askPlace n).SessionsOk := by
  cases room : s.hasRoom with
  | true =>
    rw [State.askPlace_room room]
    exact hs.receiptSession n
  | false =>
    rw [State.askPlace_full room]
    have pends : (s.updSession n fun x => { x with state := .pendingReceipt }).SessionsOk :=
      hs.updSession (fun _ => rfl) fun _ _ _ h => h.of_same
    exact pends.setPendingOrder (s.st.pendingOrder ++ [n])

theorem State.SessionsOk.closeSession (hs : s.SessionsOk) (k : Nat) (cause : CloseCause) (state : BayState) :
    (s.closeSession k cause state).SessionsOk := by
  cases h : (s.bay k).bind (·.session) with
  | none =>
    rw [s.closeSession_none h]
    exact hs.of_same
  | some n =>
    rw [s.closeSession_some h]
    have closed : (s.updSession n (Session.close s.stamp s.tb.clockSet cause)).SessionsOk :=
      hs.updSession (fun _ => rfl) fun _ _ _ h => h.of_same
    have unbound : (s.unbound k n cause state).SessionsOk := by
      rw [s.unbound_eq]
      exact closed.of_same
    exact unbound.askPlace n

theorem State.SessionsOk.passReading (hs : s.SessionsOk) (n : Option Nat) (reading dt connectorMax : Nat) :
    (s.passReading n reading dt connectorMax).SessionsOk := by
  cases n with
  | none => exact hs
  | some n =>
    refine hs.updSession (fun x => ?_) fun x _ _ hx => hx.takeReading reading dt connectorMax s.lookup
    exact (((x.takeReading reading dt connectorMax s.lookup).link_eq_iff x).1 (x.takeReading_link _ _ _ _)).1

theorem State.SessionsOk.fillPlace (hs : s.SessionsOk) : s.fillPlace.SessionsOk := by
  unfold State.fillPlace
  split
  · split
    · exact hs
    · next n rest _ => exact (hs.setPendingOrder rest).receiptSession n
  · exact hs

theorem State.SessionsOk.fillPlaces (hs : s.SessionsOk) (k : Nat) : (State.fillPlaces k s).SessionsOk := by
  induction k generalizing s with
  | zero => exact hs
  | succ k ih => exact ih hs.fillPlace

/-! ### Vouchers (R132 to R138) -/

theorem State.VouchersOk.of_same (hv : s.VouchersOk) (vl : t.vl = s.vl := by rfl) : t.VouchersOk := by
  obtain ⟨size, distinct, tills, bound⟩ := hv
  rw [← vl] at size distinct tills bound
  exact ⟨size, distinct, tills, bound⟩

/-- Vouchers may leave the list (R124, R137, R138). -/
theorem State.VouchersOk.filter (hv : s.VouchersOk) (p : Voucher → Bool) (h : t.vl.vouchers = s.vl.vouchers.filter p) :
    t.VouchersOk where
  size := h ▸ (List.length_filter_le _ _).trans hv.size
  distinct := h ▸ hv.distinct.sublist (List.filter_sublist.map _)
  tills v mem := hv.tills v (List.mem_of_mem_filter (h ▸ mem))
  bound v mem := hv.bound v (List.mem_of_mem_filter (h ▸ mem))

theorem State.VouchersOk.dropVoucher (hv : s.VouchersOk) (o : Option Nat) : (s.dropVoucher o).VouchersOk := by
  cases o with
  | none => exact hv
  | some n => exact hv.filter _ rfl

/-- A new voucher joins a list with room, under a number that is free (R133). -/
theorem State.VouchersOk.post (hv : s.VouchersOk) {v : Voucher} (room : s.vl.vouchers.length < Config.voucherSize)
    (fresh : v.number ∉ s.vl.vouchers.map (·.number)) (till : 1 ≤ v.number ∧ 1 ≤ v.till ∧ v.till ≤ 63)
    (bound : (v.state = .unclaimed ↔ v.session = none) ∧ (v.session = none ↔ v.bay = none)) :
    State.VouchersOk { s with vl := { vouchers := s.vl.vouchers ++ [v] } } := by
  have mem {w : Voucher} (hw : w ∈ s.vl.vouchers ++ [v]) : w ∈ s.vl.vouchers ∨ w = v := by
    simpa using hw
  exact {
    size := List.length_append.trans_le room
    distinct := by
      show ((s.vl.vouchers ++ [v]).map (·.number)).Nodup
      rw [List.map_append]
      exact hv.distinct.append (List.nodup_singleton _) (List.disjoint_singleton.2 fresh)
    tills := fun w hw => by
      rcases mem hw with hw | rfl
      · exact hv.tills w hw
      · exact till
    bound := fun w hw => by
      rcases mem hw with hw | rfl
      · exact hv.bound w hw
      · exact bound }

/-- A voucher's record changes, and stays one of its till that is bound while it is not UNCLAIMED (R136, R138). -/
theorem State.VouchersOk.updVoucher (hv : s.VouchersOk) {v : Voucher} (mem : v ∈ s.vl.vouchers) {f : Voucher → Voucher}
    (number : ∀ w, (f w).number = w.number) (till : (f v).till = v.till)
    (bound : ((f v).state = .unclaimed ↔ (f v).session = none) ∧ ((f v).session = none ↔ (f v).bay = none)) :
    (s.updVoucher v.number f).VouchersOk := by
  have changed (w : Voucher) : w ∈ (s.updVoucher v.number f).vl.vouchers ↔
      w = f v ∨ (w ∈ s.vl.vouchers ∧ w.number ≠ v.number) :=
    mem_map_keyed (key := Voucher.number) hv.distinct mem f w
  exact {
    size := (List.length_map _).trans_le hv.size
    distinct := by
      have numbers : (s.updVoucher v.number f).vl.vouchers.map (·.number) = s.vl.vouchers.map (·.number) := by
        rw [State.updVoucher, List.map_map]
        refine List.map_congr_left fun w _ => ?_
        simp only [Function.comp_apply, apply_ite Voucher.number, number, ite_self]
      rw [numbers]
      exact hv.distinct
    tills := fun w hw => by
      rcases (changed w).1 hw with rfl | ⟨hw, _⟩
      · rw [number, till]
        exact hv.tills v mem
      · exact hv.tills w hw
    bound := fun w hw => by
      rcases (changed w).1 hw with rfl | ⟨hw, _⟩
      · exact bound
      · exact hv.bound w hw }

/-! ### Both laws -/

/-- The laws of the sessions and of the vouchers. -/
def State.Booked (s : State) : Prop :=
  s.SessionsOk ∧ s.VouchersOk

theorem State.Booked.of_same (hs : s.Booked) (h : s.SameBooks t) : t.Booked :=
  ⟨hs.1.of_same h.slots h.st, hs.2.of_same h.vl⟩

theorem State.powerUp_booked (straps : Straps) (kind : Nat) (pending : List Instr) :
    (State.powerUp straps kind pending).Booked :=
  ⟨State.powerUp_sessionsOk straps kind pending, State.powerUp_vouchersOk straps kind pending⟩

/-- A closing may cost a voucher (R124). -/
theorem State.Booked.closeSession (hs : s.Booked) (k : Nat) (cause : CloseCause) (state : BayState) :
    (s.closeSession k cause state).Booked := by
  refine ⟨hs.1.closeSession k cause state, ?_⟩
  cases h : (s.bay k).bind (·.session) with
  | none =>
    rw [s.closeSession_none h]
    exact hs.2.of_same
  | some n =>
    rw [s.closeSession_some h]
    have unbound : (s.unbound k n cause state).VouchersOk := State.VouchersOk.dropVoucher hs.2.of_same _
    obtain ⟨bt, st, rq, e⟩ := (s.unbound k n cause state).askPlace_frame n
    rw [e]
    exact unbound.of_same

theorem State.Booked.fillPlaces (hs : s.Booked) (k : Nat) : (State.fillPlaces k s).Booked := by
  refine ⟨hs.1.fillPlaces k, ?_⟩
  obtain ⟨bt, st, rq, e⟩ := s.fillPlaces_frame k
  rw [e]
  exact hs.2.of_same

/-! ### Bay reports, service and abandonment (R49 to R64) -/

theorem State.Booked.reportCharging (hs : s.Booked) (b : BayRec) (x : ReportEntry) (dt : Nat) :
    (s.reportCharging b x dt).Booked := by
  have read : (s.passReading b.session x.reading dt x.connectorMax).Booked := by
    refine ⟨hs.1.passReading _ _ _ _, ?_⟩
    obtain ⟨st, e⟩ := s.passReading_frame b.session x.reading dt x.connectorMax
    rw [e]
    exact hs.2.of_same
  unfold State.reportCharging
  dsimp only
  split
  · exact read
  · exact read.closeSession _ _ _

theorem State.Booked.reportAction (hs : s.Booked) (b : BayRec) (x : ReportEntry) (dt : Nat) :
    (s.reportAction b x dt).Booked := by
  cases state : b.state with
  | vacant =>
    rw [s.reportAction_vacant dt state]
    split
    · split
      · next free => exact ⟨hs.1.openSession (by simpa [State.hasSlot] using free) _ _ _ _, hs.2.of_same⟩
      · exact hs.of_same {}
    · exact hs
  | waiting =>
    rw [s.reportAction_waiting dt state]
    exact hs.of_same (State.SameBooks.ite (.refl s) {})
  | active =>
    rw [s.reportAction_active dt state]
    exact hs.reportCharging b x dt
  | done =>
    rw [s.reportAction_done dt state]
    exact hs.of_same (State.SameBooks.ite (.refl s) {})
  | fallback =>
    rw [s.reportAction_fallback dt state]
    exact State.Booked.reportCharging (hs.of_same {}) b x dt
  | outOfService =>
    rw [s.reportAction_outOfService dt state]
    exact hs

theorem State.Booked.takeEntries (hs : s.Booked) (l : List ReportEntry) : (takeEntries l s).1.Booked := by
  have entry {s : State} (hs : s.Booked) (x : ReportEntry) : (s.takeEntry x).Booked := by
    unfold State.takeEntry
    split
    · exact hs
    · exact (hs.of_same (s.refreshBay_sameBooks _ x)).reportAction _ x _
  induction l generalizing s with
  | nil => exact hs
  | cons x l ih => exact ih (entry hs x)

theorem State.Booked.handleBayReports (hs : s.Booked) (payload : List Byte) : (handleBayReports payload s).1.Booked := by
  unfold Machine.handleBayReports
  split
  · exact hs
  · split
    · exact hs
    · split
      · exact hs
      · exact hs.takeEntries _

theorem State.Booked.handleEndSession (hs : s.Booked) (payload : List Byte) : (handleEndSession payload s).1.Booked := by
  unfold Machine.handleEndSession
  split
  · exact hs
  · split
    · exact hs
    · split
      · exact hs
      · split
        · exact hs
        · split
          · exact hs.closeSession _ _ _
          · exact hs

theorem State.Booked.takeOut (hs : s.Booked) (b : BayRec) : (s.takeOut b).Booked := by
  have closed := (hs.closeSession b.number .outOfService .outOfService).of_same (State.outGrant_sameBooks _ b.number)
  unfold State.takeOut
  split
  · exact closed
  · exact closed
  · exact State.Booked.of_same (hs.of_same {}) (State.outGrant_sameBooks _ _)
  · exact State.Booked.of_same (hs.of_same {}) (State.outGrant_sameBooks _ _)
  · exact State.Booked.of_same (hs.of_same {}) (State.outGrant_sameBooks _ _)
  · exact hs

theorem State.Booked.handleSetBayService (hs : s.Booked) (payload : List Byte) :
    (handleSetBayService payload s).1.Booked := by
  unfold Machine.handleSetBayService
  split
  · exact hs
  · split
    · exact hs
    · split
      · exact hs
      · next b _ =>
        dsimp only
        split
        · exact hs.of_same (s.takeIn_sameBooks b)
        · exact hs.takeOut b

theorem State.Booked.abandon (hs : s.Booked) : s.abandon.Booked := by
  have all (ks : List Nat) {s : State} (hs : s.Booked) : (ks.foldl State.abandonBay s).Booked := by
    induction ks generalizing s with
    | nil => exact hs
    | cons k ks ih => exact ih (hs.closeSession k _ _)
  unfold State.abandon
  split
  · exact all _ hs
  · exact hs

/-! ### Vouchers and receipts (R133 to R138, R149, R150) -/

theorem State.Booked.handlePostVoucher (hs : s.Booked) (body : Body PostFields) : (handlePostVoucher body s).1.Booked := by
  unfold Machine.handlePostVoucher
  split
  · exact hs
  · next q =>
    split
    · exact hs
    · next fields =>
      split
      · exact hs
      · next new =>
        split
        · exact hs
        · split
          · exact hs
          · next room =>
            obtain ⟨number, till, most⟩ : q.number ≠ 0 ∧ q.till ≠ 0 ∧ ¬ 63 < q.till.toNat := by simpa using fields
            have positive {n : Nat} {v : BitVec n} (h : v ≠ 0) : 1 ≤ v.toNat :=
              Nat.pos_of_ne_zero fun e => h (BitVec.eq_of_toNat_eq (by simp [e]))
            have fresh : (s.newVoucher q).number ∉ s.vl.vouchers.map (·.number) := by
              simpa [State.voucher, State.newVoucher] using new
            exact ⟨hs.1.of_same, hs.2.post (Nat.not_le.1 room) fresh
              ⟨positive number, positive till, Nat.not_lt.1 most⟩ ⟨iff_of_true rfl rfl, iff_of_true rfl rfl⟩⟩

/-- The session that a claim binds is in the table and names no voucher (R135). -/
theorem State.claimable_session {k : Nat} {x : Session} (h : s.claimable k = some x) :
    x ∈ s.st.sessions ∧ x.voucher = none := by
  unfold State.claimable at h
  split at h
  · exact nomatch h
  · split at h
    · split at h
      · exact nomatch h
      · next y found =>
        split at h
        · next none =>
          cases h
          obtain ⟨n, _, found⟩ := Option.bind_eq_some_iff.1 found
          exact ⟨(s.mem_of_session found).1, by simpa using none⟩
        · exact nomatch h
    · exact nomatch h

/-- A claim gives the voucher's credit to a session that names none (R136). -/
theorem State.Booked.claim (hs : s.Booked) {v : Voucher} (memv : v ∈ s.vl.vouchers) {x : Session} (memx : x ∈ s.st.sessions)
    (none : x.voucher = none) (k : Nat) : (s.claim v k x.number).Booked := by
  have vouchers : (s.updVoucher v.number fun y =>
      { y with state := .claimed, session := some x.number, bay := some k }).VouchersOk :=
    hs.2.updVoucher memv (fun _ => rfl) rfl ⟨iff_of_false nofun nofun, iff_of_false nofun nofun⟩
  refine ⟨State.SessionsOk.updSession (hs.1.of_same) (fun _ => rfl) fun y hy number balanced => ?_, vouchers.of_same⟩
  have same : y = x := List.inj_on_of_nodup_map hs.1.distinct hy memx number
  exact balanced.claim (same ▸ none) v.number v.credit

theorem State.Booked.handleClaimVoucher (hs : s.Booked) (body : Body ClaimFields) :
    (handleClaimVoucher body s).1.Booked := by
  unfold Machine.handleClaimVoucher
  split
  · exact hs
  · split
    · exact hs
    · split
      · exact hs
      · split
        · exact hs
        · next v hv =>
          split
          · exact hs
          · split
            · exact hs
            · next x hx =>
              obtain ⟨memx, none⟩ := State.claimable_session hx
              exact hs.claim (s.mem_of_voucher hv).1 memx none _

/-- A withdrawal takes the credit that the bound session has left (R138). -/
theorem State.Booked.withdraw (hs : s.Booked) {v : Voucher} (mem : v ∈ s.vl.vouchers) (claimed : v.state = .claimed) :
    ((s.updVoucher v.number fun y => { y with state := .withdrawn }).withdrawCredit v.session).Booked := by
  obtain ⟨bound, bay⟩ := hs.2.bound v mem
  have named : v.session ≠ none := fun none => nomatch claimed.symm.trans (bound.2 none)
  have vouchers : (s.updVoucher v.number fun y => { y with state := .withdrawn }).VouchersOk :=
    hs.2.updVoucher mem (fun _ => rfl) rfl ⟨iff_of_false nofun named, bay⟩
  cases h : v.session with
  | none => exact absurd h named
  | some n =>
    exact ⟨State.SessionsOk.updSession (hs.1.of_same) (fun _ => rfl) fun y _ _ balanced => balanced.withdraw,
      vouchers.of_same⟩

theorem State.Booked.handleWithdrawVoucher (hs : s.Booked) (body : Body Word) :
    (handleWithdrawVoucher body s).1.Booked := by
  unfold Machine.handleWithdrawVoucher
  split
  · exact hs
  · split
    · exact hs
    · next v hv =>
      split
      · exact ⟨hs.1.of_same, hs.2.dropVoucher (some v.number)⟩
      · next claimed => exact hs.withdraw (s.mem_of_voucher hv).1 claimed
      · exact hs

theorem State.Booked.expireVouchers (hs : s.Booked) : s.expireVouchers.Booked := by
  obtain ⟨sp, e⟩ := State.raiseExpiredAll_frame
    { s with vl := { vouchers := s.vl.vouchers.filter fun v => !v.isExpired s.tb.monoMin } }
    (s.vl.vouchers.filter (Voucher.isExpired s.tb.monoMin))
  unfold State.expireVouchers
  dsimp only
  rw [e]
  exact ⟨hs.1.of_same, hs.2.filter _ rfl⟩

theorem State.Booked.handleTakeReceipt (hs : s.Booked) (p : Port) (body : Body Word) :
    (handleTakeReceipt p body s).1.Booked := by
  unfold Machine.handleTakeReceipt
  split
  · exact hs
  · split
    · exact hs
    · split
      · exact State.Booked.fillPlaces (hs.of_same {}) _
      · exact hs

theorem State.Booked.releaseTillHold (hs : s.Booked) : s.releaseTillHold.Booked := by
  unfold State.releaseTillHold
  split
  · exact State.Booked.fillPlaces (hs.of_same {}) _
  · exact hs

theorem State.Booked.release (hs : s.Booked) (tables : s.TablesOk) (straps : Straps) : (s.release straps).Booked := by
  unfold State.release
  split
  · exact hs
  · exact State.powerUp_booked _ _ _
  · split
    · next valid => exact hs.of_same (s.restart_sameBooks tables valid)
    · exact State.powerUp_booked _ _ _

/-! ### Every command -/

/-- A request keeps the laws if its block does. -/
theorem State.Booked.request (hs : s.Booked) {ports : List Port} {p : Port} {tag code : Byte} {f : Handler}
    (hf : ∀ s : State, s.Booked → (f s).1.Booked) : (takeRequest ports p tag code f s).Booked := by
  have arrived := hs.of_same (s.arrive_sameBooks p)
  unfold takeRequest
  split
  · exact hs
  · split
    · exact hs.of_same {}
    · dsimp only
      split
      · exact (hf _ arrived).of_same {}
      · exact arrived.of_same {}

/-- A request whose block leaves the books the same keeps the laws. -/
theorem State.Booked.quietRequest (hs : s.Booked) {ports : List Port} {p : Port} {tag code : Byte} {f : Handler}
    (hf : ∀ s : State, s.SameBooks (f s).1) : (takeRequest ports p tag code f s).Booked :=
  hs.request fun s hs => hs.of_same (hf s)

/-- A request that reads the state keeps the laws. -/
theorem State.Booked.readRequest (hs : s.Booked) {ports : List Port} {p : Port} {tag code : Byte} {f : Handler}
    (hf : ∀ s : State, (f s).1 = s) : (takeRequest ports p tag code f s).Booked :=
  hs.quietRequest fun s => .of_eq (hf s)

/-- An event whose effect leaves the books the same keeps the laws. -/
theorem State.Booked.quietEvent (hs : s.Booked) {f : State → State} (hf : s.SameBooks (f s)) : (unlessHeld f s).Booked :=
  Lasting.event (fun hs => hs.of_same hf) hs

/-- Every command has a next state, and the laws hold there. -/
theorem State.Booked.exec (hs : s.Booked) (tables : s.TablesOk) (i : Instr) : ∃ t, exec i s = .next t ∧ t.Booked := by
  cases i with
  | ping p tag payload => exact ⟨_, rfl, hs.quietRequest (handlePing_sameBooks · p payload)⟩
  | readNotice p tag payload => exact ⟨_, rfl, hs.quietRequest (handleReadNotice_sameBooks · p payload)⟩
  | setNoticeMask p tag payload => exact ⟨_, rfl, hs.quietRequest (handleSetNoticeMask_sameBooks · p payload)⟩
  | writeConfig p tag body => exact ⟨_, rfl, hs.quietRequest (handleWriteConfig_sameBooks · body)⟩
  | readConfig p tag payload => exact ⟨_, rfl, hs.readRequest (bareRequest_state · payload _ rfl)⟩
  | commitSite p tag payload => exact ⟨_, rfl, hs.quietRequest (handleCommitSite_sameBooks · payload)⟩
  | enterConfigure p tag payload => exact ⟨_, rfl, hs.quietRequest (handleEnterConfigure_sameBooks · payload)⟩
  | setLimits p tag body => exact ⟨_, rfl, hs.quietRequest (handleSetLimits_sameBooks · body)⟩
  | setTariff p tag body => exact ⟨_, rfl, hs.quietRequest (handleSetTariff_sameBooks · body)⟩
  | setClock p tag payload => exact ⟨_, rfl, hs.quietRequest (handleSetClock_sameBooks · payload)⟩
  | readSite p tag payload => exact ⟨_, rfl, hs.quietRequest (handleReadSite_sameBooks · payload)⟩
  | readWindows p tag payload => exact ⟨_, rfl, hs.readRequest (bareRequest_state · payload _ rfl)⟩
  | readChannels p tag payload => exact ⟨_, rfl, hs.readRequest (bareRequest_state · payload _ rfl)⟩
  | readSession p tag body => exact ⟨_, rfl, hs.readRequest (handleReadSession_state · body)⟩
  | bayReports p tag payload => exact ⟨_, rfl, hs.request fun _ hs => hs.handleBayReports payload⟩
  | readGrants p tag payload => exact ⟨_, rfl, hs.readRequest fun _ => rfl⟩
  | ackGrants p tag payload => exact ⟨_, rfl, hs.quietRequest (handleAckGrants_sameBooks · payload)⟩
  | endSession p tag payload => exact ⟨_, rfl, hs.request fun _ hs => hs.handleEndSession payload⟩
  | setBayService p tag payload => exact ⟨_, rfl, hs.request fun _ hs => hs.handleSetBayService payload⟩
  | claimVoucher p tag body => exact ⟨_, rfl, hs.request fun _ hs => hs.handleClaimVoucher body⟩
  | readBay p tag payload => exact ⟨_, rfl, hs.readRequest (handleReadBay_state · payload)⟩
  | postVoucher p tag body => exact ⟨_, rfl, hs.request fun _ hs => hs.handlePostVoucher body⟩
  | withdrawVoucher p tag body => exact ⟨_, rfl, hs.request fun _ hs => hs.handleWithdrawVoucher body⟩
  | readVoucher p tag body => exact ⟨_, rfl, hs.readRequest (handleReadVoucher_state · body)⟩
  | peekReceipt p tag payload => exact ⟨_, rfl, hs.readRequest (handlePeekReceipt_state · p payload)⟩
  | takeReceipt p tag body => exact ⟨_, rfl, hs.request fun _ hs => hs.handleTakeReceipt p body⟩
  | frameDiscard p =>
    refine ⟨_, rfl, hs.quietEvent ?_⟩
    obtain ⟨sp, e⟩ := s.discardFrame_frame p
    rw [e]
    exact {}
  | overrun p => exact ⟨_, rfl, hs.quietEvent (State.SameBooks.ite {} (.refl s))⟩
  | unknownCommand p tag code =>
    refine ⟨_, rfl, hs.quietEvent ?_⟩
    obtain ⟨sp, e⟩ := s.unknownFrame_frame p tag code
    rw [e]
    exact {}
  | responseEnd p => exact ⟨_, rfl, hs.quietEvent {}⟩
  | monotonicMinuteEvent => exact ⟨_, rfl, hs.quietEvent (State.SameBooks.ite {} (.refl s))⟩
  | clockMinuteEvent => exact ⟨_, rfl, hs.quietEvent {}⟩
  | roundTick => exact ⟨_, rfl, hs.quietEvent (s.tick_sameBooks.ite (.refl s))⟩
  | staleMark k => exact ⟨_, rfl, hs.quietEvent (State.SameBooks.ite {} (.refl s))⟩
  | periodEnd =>
    refine ⟨_, rfl, hs.quietEvent ?_⟩
    obtain ⟨jl, tb, so, e⟩ := s.endPeriod_frame
    rw [e]
    exact {}
  | presenceExpiry p => exact ⟨_, rfl, hs.quietEvent (s.expirePresence_sameBooks p)⟩
  | silenceExpiry ch =>
    refine ⟨_, rfl, hs.quietEvent ?_⟩
    obtain ⟨mi, sp, e⟩ := s.expireSilence_frame ch
    rw [e]
    exact {}
  | overdueExpiry k =>
    refine ⟨_, rfl, hs.quietEvent ?_⟩
    obtain ⟨gt, e⟩ := s.expireOverdue_frame k
    rw [e]
    exact {}
  | windowEnd =>
    refine ⟨_, rfl, hs.quietEvent ?_⟩
    obtain ⟨dg, sp, e⟩ := s.endWindow_frame
    rw [e]
    exact {}
  | voucherExpiry => exact ⟨_, rfl, Lasting.event State.Booked.expireVouchers hs⟩
  | abandonment => exact ⟨_, rfl, Lasting.event State.Booked.abandon hs⟩
  | tillHoldRelease => exact ⟨_, rfl, Lasting.event State.Booked.releaseTillHold hs⟩
  | pulse ch => exact ⟨_, rfl, hs.quietEvent ((s.sampleChannel_sameBooks ch _).ite (.refl s))⟩
  | inactiveLevelChange ch level => exact ⟨_, rfl, hs.quietEvent ((s.sampleChannel_sameBooks ch level).ite (.refl s))⟩
  | boundAssertion b => exact ⟨_, rfl, hs.quietEvent ((s.sampleBound_sameBooks b true).ite (.refl s))⟩
  | boundDeassertion b => exact ⟨_, rfl, hs.quietEvent ((s.sampleBound_sameBooks b false).ite (.refl s))⟩
  | powerUpReset => exact ⟨_, rfl, (State.powerUp_booked s.straps 1 s.pending).of_same {}⟩
  | pinReset => exact ⟨_, rfl, hs.of_same {}⟩
  | resetRelease size1 size0 speed => exact ⟨_, rfl, hs.release tables _⟩
  | vbakFailure => exact ⟨_, rfl, hs.of_same {}⟩
  | filterSample line level =>
    refine ⟨_, rfl, hs.quietEvent ?_⟩
    cases line with
    | channel ch => exact s.sampleChannel_sameBooks ch level
    | bound b => exact s.sampleBound_sameBooks b level
  | characterReceived p byte stopLow => exact ⟨_, rfl, hs.quietEvent {}⟩
  | receiverGap p => exact ⟨_, rfl, hs.quietEvent {}⟩

/-- Settles O58: both laws are kept by every command, taken from the queue. -/
theorem stepKeepsSessionLaws : Obligations.StepKeepsSessionLaws := by
  intro s t tables sessions vouchers h
  have booked : s.Booked := ⟨sessions, vouchers⟩
  unfold Machine.step at h
  split at h
  · cases h
    exact booked
  · next i rest _ =>
    have queued : State.Booked { s with pending := rest } := booked.of_same {}
    have shape : State.TablesOk { s with pending := rest } :=
      tables.of_alike (s.alike_records s.jl s.held s.st s.vl s.rq s.sp rest)
    obtain ⟨u, hu, kept⟩ := queued.exec shape i
    rw [hu] at h
    cases h
    exact kept

end Sys2Proof.Machine
end

section
/-! A closing that finds a place in the queue or waits for one (R124, R125, R143, R147). -/

namespace Sys2Proof.Machine

variable {s : State}

/-- The vouchers without the one that a session names. -/
theorem withoutVoucher_eq_filter (o : Option Nat) (vs : List Voucher) :
    withoutVoucher o vs = vs.filter fun v => decide (o ≠ some v.number) := by
  cases o with
  | none => exact (List.filter_eq_self.2 fun v _ => rfl).symm
  | some m =>
    refine List.filter_congr fun v _ => ?_
    rw [decide_eq_decide, ne_eq, ne_eq, Option.some_inj, eq_comm]

/-- A session is found after a change of its record that keeps its number. -/
theorem State.session_updSession {n : Nat} {x : Session} (hx : s.session n = some x) {f : Session → Session}
    (number : ∀ y, (f y).number = y.number) : (s.updSession n f).session n = some (f x) := by
  have same : (fun y : Session => y.number == n) ∘ (fun y => if y.number = n then f y else y) = fun y => y.number == n := by
    funext y
    simp only [Function.comp_apply, apply_ite Session.number, number, ite_self]
  rw [State.session, State.updSession, List.find?_map, same, ← State.session, hx, Option.map_some,
    if_pos (s.mem_of_session hx).2]

/-- The Receipt Queue with a receipt at its tail and the next number taken, or exhausted (R145). -/
def ReceiptQueue.push (r : Receipt) (q : ReceiptQueue) : ReceiptQueue :=
  { q with
    receipts := q.receipts ++ [r]
    nextReceipt := if q.nextReceipt = 4294967295 then 4294967295 else q.nextReceipt + 1
    exhausted := q.exhausted || decide (q.nextReceipt = 4294967295) }

theorem State.buildReceipt_eq (s : State) (x : Session) :
    s.buildReceipt x = { s with rq := s.rq.push (s.receiptOf x) } := by
  have next (n : Nat) : (if n = Config.maxWord then n else n + 1) = if n = 4294967295 then 4294967295 else n + 1 := by
    by_cases last : n = 4294967295
    · rw [last]
      rfl
    · exact (if_neg last).trans (if_neg last).symm
  rw [State.buildReceipt, next]
  rfl

/-- A receipted session leaves its receipt in the queue and its slot free, for the head of the Slot Wait List (R125, R118). -/
theorem State.receiptSession_found {n : Nat} {x : Session} (hx : s.session n = some x) : s.receiptSession n =
    State.admitHead { s with st := s.st.drop n, rq := s.rq.push (s.receiptOf x) } := by
  rw [State.receiptSession, hx]
  dsimp only
  rw [s.buildReceipt_eq]
  rfl

/-- A closing with a place in the queue and no bay on the Slot Wait List (R124, R125). -/
theorem State.closeSession_room {k n : Nat} {b : BayRec} {x : Session} (hb : s.bay k = some b) (hn : b.session = some n)
    (hx : s.session n = some x) (room : s.hasRoom = true) (list : s.bt.slotWait = []) (cause : CloseCause)
    (state : BayState) : s.closeSession k cause state = { s with
      bt := s.bt.setBay k (BayRec.closed state)
      st := s.st.drop n
      vl := { vouchers := withoutVoucher x.voucher s.vl.vouchers }
      rq := s.rq.push (s.receiptOf (x.close s.stamp s.tb.clockSet cause)) } := by
  have number (y : Session) : (y.close s.stamp s.tb.clockSet cause).number = y.number := rfl
  have found : (s.unbound k n cause state).session n = some (x.close s.stamp s.tb.clockSet cause) := by
    rw [s.unbound_eq]
    exact s.session_updSession hx number
  rw [s.closeSession_some (by rw [hb]; exact hn), State.askPlace_room ((s.unbound_hasRoom _ _ _ _).trans room),
    State.receiptSession_found found, s.unbound_eq, SessionTable.setSession_drop number, hx]
  exact State.admitHead_nil list

/-- A closing without a place in the queue (R124, R125). -/
theorem State.closeSession_full {k n : Nat} {b : BayRec} {x : Session} (hb : s.bay k = some b) (hn : b.session = some n)
    (hx : s.session n = some x) (full : s.hasRoom = false) (cause : CloseCause) (state : BayState) :
    s.closeSession k cause state = { s with
      bt := s.bt.setBay k (BayRec.closed state)
      st := s.st.queue n (Session.await s.stamp s.tb.clockSet cause)
      vl := { vouchers := withoutVoucher x.voucher s.vl.vouchers } } := by
  rw [s.closeSession_some (by rw [hb]; exact hn), State.unbound_askPlace_full full, hx]
  rfl

/-- Settles O29: the state after a closing with a place and after one without. -/
theorem closingReceiptsOrWaits : Obligations.ClosingReceiptsOrWaits := by
  refine ⟨fun k n cause state b x s hb hn hx room list => ?_, fun k n cause state b x s hb hn hx full => ?_⟩
  · refine ⟨s.receiptOf (x.close s.stamp s.tb.clockSet cause), ?_, rfl, (s.mem_of_session hx).2, rfl, rfl, rfl, rfl, rfl, rfl,
      rfl, rfl, rfl, rfl, rfl, rfl, rfl, rfl⟩
    rw [State.closeSession_room hb hn hx room list, withoutVoucher_eq_filter]
    rfl
  · rw [State.closeSession_full hb hn hx full, withoutVoucher_eq_filter]
    rfl

end Sys2Proof.Machine
end

section
/-! The places of the queue handed over to the pending sessions (R126, R118, R145). -/

namespace Sys2Proof.Machine

variable {s : State}

/-- Handing over changes nothing while no session waits for a receipt or the queue has no place to offer (R126, R145). -/
theorem State.fillPlaces_idle (h : s.st.pendingOrder = [] ∨ s.hasRoom = false) (places : Nat) :
    State.fillPlaces places s = s := by
  induction places with
  | zero => rfl
  | succ k ih => rw [State.fillPlaces, State.fillPlace_idle h, ih]

theorem State.fillPlaces_add (places more : Nat) (s : State) :
    State.fillPlaces (places + more) s = State.fillPlaces more (State.fillPlaces places s) := by
  induction places generalizing s with
  | zero => rw [Nat.zero_add]; rfl
  | succ k ih => rw [Nat.succ_add]; exact ih s.fillPlace

/-- A freed place: the oldest pending session leaves its receipt in the queue and its slot free, for the head of the Slot Wait
List (R126, R118). -/
theorem State.fillPlace_found {n : Nat} {rest : List Nat} {x : Session} (room : s.hasRoom = true)
    (order : s.st.pendingOrder = n :: rest) (hx : s.session n = some x) : s.fillPlace = State.admitHead { s with
      st := { s.st.drop n with pendingOrder := rest }
      rq := s.rq.push (s.receiptOf x) } := by
  rw [State.fillPlace_pending order room]
  exact State.receiptSession_found (s := { s with st := { s.st with pendingOrder := rest } }) hx

/-- The head of the Slot Wait List is admitted at its bay's last reading (R118, R55). -/
theorem State.admitHead_cons {k : Nat} {wait : List Nat} {b : BayRec} (list : s.bt.slotWait = k :: wait)
    (hb : s.bay k = some b) : s.admitHead = State.openSession k b.lastReading
      (if s.isPresent .network then .active else .fallback) (if s.isPresent .network then none else some s.tb.monoMin)
      { s with bt := { s.bt with slotWait := wait } } := by
  rw [State.admitHead, list]
  simp only [hb, Option.map_some, Option.getD_some]
  split <;> rfl

/-- An admission adds sessions to the table and takes none away. -/
theorem State.admitHead_sessions (s : State) : ∃ l, s.admitHead.st.sessions = s.st.sessions ++ l := by
  cases list : s.bt.slotWait with
  | nil => exact ⟨[], by rw [s.admitHead_nil list, List.append_nil]⟩
  | cons k wait =>
    obtain ⟨base, state, m, _, e⟩ := s.admitHead_eq list
    rw [e]
    exact ⟨_, rfl⟩

/-- What a freed place does to the queue, the pending order and the Slot Wait List; the other sessions stay. -/
theorem State.fillPlace_rest {n : Nat} {rest : List Nat} {x : Session} (room : s.hasRoom = true)
    (order : s.st.pendingOrder = n :: rest) (hx : s.session n = some x) :
    s.fillPlace.rq = s.rq.push (s.receiptOf x) ∧ s.fillPlace.st.pendingOrder = rest ∧
    s.fillPlace.bt.slotWait = s.bt.slotWait.tail ∧
    ∀ y ∈ s.st.sessions, y.number ≠ n → y ∈ s.fillPlace.st.sessions := by
  rw [State.fillPlace_found room order hx]
  generalize ht : ({ s with
    st := { s.st.drop n with pendingOrder := rest }
    rq := s.rq.push (s.receiptOf x) } : State) = t
  obtain ⟨admittedOrder, admittedQueue, _, admittedList⟩ := t.admitHead_rest
  obtain ⟨l, sessions⟩ := t.admitHead_sessions
  rw [admittedOrder, admittedQueue, admittedList, sessions, ← ht]
  exact ⟨rfl, rfl, rfl, fun y hy other => List.mem_append_left _ ((s.st.mem_drop n y).2 ⟨hy, other⟩)⟩

/-- Places handed over one after the other: the pending sessions are receipted in closing order, and as many waiting bays
leave the list (R126), while the receipt numbers last (R145). -/
theorem State.fillPlaces_in_order (places : Nat) (distinct : s.st.pendingOrder.Nodup)
    (held : ∀ n ∈ s.st.pendingOrder, (s.session n).isSome = true) (numbered : places ≠ 0 → s.rq.exhausted = false)
    (size : s.rq.receipts.length + places ≤ 64) (numbers : s.rq.nextReceipt + places ≤ 4294967296) :
    (State.fillPlaces places s).rq.receipts.map (·.session) =
      s.rq.receipts.map (·.session) ++ s.st.pendingOrder.take places ∧
    (State.fillPlaces places s).st.pendingOrder = s.st.pendingOrder.drop places ∧
    (State.fillPlaces places s).bt.slotWait = s.bt.slotWait.drop (min places s.st.pendingOrder.length) := by
  induction places generalizing s with
  | zero => simp [State.fillPlaces]
  | succ k ih =>
    cases order : s.st.pendingOrder with
    | nil => simp [State.fillPlaces_idle (.inl order), order]
    | cons n rest =>
      rw [order] at distinct held
      obtain ⟨first, distinct⟩ := List.nodup_cons.1 distinct
      obtain ⟨x, hx⟩ := Option.isSome_iff_exists.1 (held n List.mem_cons_self)
      have room : s.hasRoom = true := by
        have place : s.rq.receipts.length < Config.queueSize := Nat.lt_of_lt_of_le (by omega) size
        simp [State.hasRoom, numbered k.succ_ne_zero, place]
      obtain ⟨queue, pending, list, stay⟩ := State.fillPlace_rest room order hx
      have others : ∀ m ∈ rest, (s.fillPlace.session m).isSome = true := fun m hm => by
        obtain ⟨y, hy⟩ := Option.isSome_iff_exists.1 (held m (List.mem_cons_of_mem n hm))
        obtain ⟨mem, rfl⟩ := s.mem_of_session hy
        exact List.find?_isSome.2 ⟨y, stay y mem fun e => first (e ▸ hm), beq_self_eq_true _⟩
      have numberedNext : k ≠ 0 → s.fillPlace.rq.exhausted = false := fun more => by
        have lasts : s.rq.nextReceipt ≠ 4294967295 := by omega
        simp [queue, ReceiptQueue.push, numbered k.succ_ne_zero, lasts]
      have sizeNext : s.fillPlace.rq.receipts.length + k ≤ 64 := by
        rw [queue, ReceiptQueue.push, List.length_append, List.length_singleton]
        omega
      have numbersNext : s.fillPlace.rq.nextReceipt + k ≤ 4294967296 := by
        rw [queue, ReceiptQueue.push]
        dsimp only
        split <;> omega
      obtain ⟨receipts, orderNext, slotWait⟩ := ih (pending ▸ distinct) (pending ▸ others) numberedNext sizeNext numbersNext
      have number : (s.receiptOf x).session = n := (s.mem_of_session hx).2
      rw [State.fillPlaces, receipts, orderNext, slotWait, queue, pending, list]
      simp [ReceiptQueue.push, number, Nat.succ_min_succ]

/-- Settles O31: one freed place, then several by the order in which they are handed over. -/
theorem freedPlaceAdmitsHead : Obligations.FreedPlaceAdmitsHead := by
  refine ⟨fun n rest x s room order hx => ?_, fun places s h => ?_, State.fillPlaces_add,
    fun places s _ distinct held numbered size numbers =>
      State.fillPlaces_in_order places distinct held (fun _ => numbered) size numbers⟩
  · have filled : State.fillPlaces 1 s = _ := State.fillPlace_found room order hx
    refine ⟨fun list => filled.trans (State.admitHead_nil list), fun k wait b list hb =>
      filled.trans ((State.admitHead_cons (k := k) (wait := wait) (b := b) ?_ ?_).trans ?_)⟩
    · exact list
    · exact hb
    · rfl
  · refine State.fillPlaces_idle (h.imp_right fun exhausted => ?_) places
    rw [State.hasRoom, exhausted, Bool.not_true, Bool.and_false]

end Sys2Proof.Machine
end

section
/-! POST VOUCHER (R133, R134). -/

namespace Sys2Proof.Machine

variable {s : State}

/-- A voucher is found exactly where a record holds its number. -/
theorem State.voucher_isSome_iff {n : Nat} : (s.voucher n).isSome = true ↔ ∃ v ∈ s.vl.vouchers, v.number = n := by
  simp only [State.voucher, List.find?_isSome, beq_iff_eq]

section Posting

variable {q : PostFields}

theorem handlePostVoucher_bad (bad : q.number = 0 ∨ q.till = 0 ∨ 63 < q.till.toNat) :
    handlePostVoucher (.fields q) s = refuse .badRequest s :=
  if_pos bad

variable (good : ¬ (q.number = 0 ∨ q.till = 0 ∨ 63 < q.till.toNat))
include good

theorem handlePostVoucher_duplicate (held : ∃ v ∈ s.vl.vouchers, v.number = q.number.toNat) :
    handlePostVoucher (.fields q) s = refuse .duplicate s :=
  (if_neg good).trans (if_pos (State.voucher_isSome_iff.2 held))

variable (new : ¬ ∃ v ∈ s.vl.vouchers, v.number = q.number.toNat)
include new

theorem handlePostVoucher_belowMinimum (small : q.basket.toNat < s.cfg.minBasket) :
    handlePostVoucher (.fields q) s = refuse .belowMinimum s :=
  (if_neg good).trans ((if_neg (mt State.voucher_isSome_iff.1 new)).trans (if_pos small))

variable (enough : s.cfg.minBasket ≤ q.basket.toNat)
include enough

theorem handlePostVoucher_listFull (full : 48 ≤ s.vl.vouchers.length) :
    handlePostVoucher (.fields q) s = refuse .listFull s :=
  (if_neg good).trans ((if_neg (mt State.voucher_isSome_iff.1 new)).trans
    ((if_neg (Nat.not_lt.2 enough)).trans (if_pos full)))

theorem handlePostVoucher_posted (room : s.vl.vouchers.length < 48) :
    handlePostVoucher (.fields q) s = ({ s with vl := { vouchers := s.vl.vouchers ++ [s.newVoucher q] } }, .ok,
      .posted (s.newVoucher q).credit (s.newVoucher q).expiry) :=
  (if_neg good).trans ((if_neg (mt State.voucher_isSome_iff.1 new)).trans
    ((if_neg (Nat.not_lt.2 enough)).trans (if_neg (Nat.not_le.2 room))))

end Posting

theorem State.arrive_newVoucher (s : State) (p : Port) (q : PostFields) : (s.arrive p).newVoucher q = s.newVoucher q := by
  simp only [State.newVoucher, State.arrive_cfg, State.arrive_tb]

/-- The record of a posting whose expiry minute has 32 bits (R133, R134). -/
theorem State.newVoucher_eq {q : PostFields} (h : s.tb.monoMin + s.cfg.voucherValidity ≤ Config.maxWord) :
    s.newVoucher q =
      { number := q.number.toNat, till := q.till.toNat, basket := q.basket.toNat,
        credit := min s.cfg.voucherCap (q.basket.toNat / 100 * s.cfg.voucherRate), posted := s.tb.monoMin,
        expiry := s.tb.monoMin + s.cfg.voucherValidity, state := .unclaimed, session := none, bay := none } := by
  rw [State.newVoucher, minuteNumber, if_pos h]
  rfl

/-- Settles O38: each check in its turn, and then the record that is appended. -/
theorem postVoucherAppends : Obligations.PostVoucherAppends := by
  intro tag q s hr a refused held bad credit expiry
  have vl : a.vl = s.vl := s.arrive_vl .till
  have cfg : a.cfg = s.cfg := s.arrive_cfg .till
  refine ⟨next_takeRequest_till hr rfl, fun h => next_takeRequest_till hr (handlePostVoucher_bad h),
    fun good h => next_takeRequest_till hr (handlePostVoucher_duplicate good (vl ▸ h)),
    fun good new h => next_takeRequest_till hr (handlePostVoucher_belowMinimum good (vl ▸ new) (cfg ▸ h)),
    fun good new enough h => next_takeRequest_till hr (handlePostVoucher_listFull good (vl ▸ new) (cfg ▸ enough) (vl ▸ h)),
    fun good new enough room fits => next_takeRequest_till hr ?_⟩
  rw [handlePostVoucher_posted good (vl ▸ new) (cfg ▸ enough) (vl ▸ room), s.arrive_newVoucher, State.newVoucher_eq fits,
    s.arrive_vl]

end Sys2Proof.Machine
end

section
/-! CLAIM VOUCHER (R135, R136) and WITHDRAW VOUCHER (R138). -/

namespace Sys2Proof.Machine

variable {s : State}

/-! ### The session that a claim binds (R135, check 6) -/

section Claimable

variable {k : Nat} {b : BayRec} (hb : s.bay k = some b)
include hb

theorem State.claimable_idle (idle : b.state ≠ .active) : s.claimable k = none := by
  rw [State.claimable, hb]
  exact if_neg idle

/-- An ACTIVE bay offers its session exactly if that names no voucher. -/
theorem State.claimable_active (active : b.state = .active) {n : Nat} {x : Session} (hn : b.session = some n)
    (hx : s.session n = some x) : s.claimable k = if x.voucher.isNone then some x else none := by
  simp only [State.claimable, hb, active, hn, Option.bind_some, hx, if_true]

end Claimable

theorem State.arrive_claimable (s : State) (p : Port) (k : Nat) : (s.arrive p).claimable k = s.claimable k := by
  obtain ⟨gt, rq, sp, h⟩ := s.arrive_frame p
  rw [h]
  rfl

/-! ### The checks of a claim (R135) -/

section Claiming

variable {q : ClaimFields}

theorem handleClaimVoucher_configure (h : s.isRun = false) : handleClaimVoucher (.fields q) s = refuse .badState s := by
  simp only [handleClaimVoucher, h, Bool.not_false, if_true]

variable (run : s.isRun = true)
include run

theorem handleClaimVoucher_unknownBay (h : s.isKnown q.bay.toNat = false) :
    handleClaimVoucher (.fields q) s = refuse .unknownBay s := by
  simp [handleClaimVoucher, run, h]

variable (known : s.isKnown q.bay.toNat = true)
include known

theorem handleClaimVoucher_unknownVoucher (h : s.voucher q.number.toNat = none) :
    handleClaimVoucher (.fields q) s = refuse .unknownVoucher s := by
  simp [handleClaimVoucher, run, known, h]

variable {v : Voucher} (hv : s.voucher q.number.toNat = some v)
include hv

theorem handleClaimVoucher_notClaimable (h : v.state ≠ .unclaimed) :
    handleClaimVoucher (.fields q) s = refuse .notClaimable s := by
  simp [handleClaimVoucher, run, known, hv, h]

variable (unclaimed : v.state = .unclaimed)
include unclaimed

theorem handleClaimVoucher_badState (h : s.claimable q.bay.toNat = none) :
    handleClaimVoucher (.fields q) s = refuse .badState s := by
  simp [handleClaimVoucher, run, known, hv, unclaimed, h]

theorem handleClaimVoucher_claimed {x : Session} (h : s.claimable q.bay.toNat = some x) :
    handleClaimVoucher (.fields q) s =
      (s.claim v q.bay.toNat x.number, .ok, .claimed x.number v.credit) := by
  simp [handleClaimVoucher, run, known, hv, unclaimed, h]

end Claiming

/-- Settles O39: each check in its turn, and then the binding. -/
theorem claimVoucherBinds : Obligations.ClaimVoucherBinds := by
  intro tag q s hr a k m refused known
  have inRun (h : s.site = .run) : a.isRun = true := (s.arrive_isRun _).trans (State.isRun_of_run h)
  have isKnown (h : known) : a.isKnown k = true := (s.arrive_isKnown _ k).trans (State.isKnown_of_range h.1 h.2)
  have found {o : Option Voucher} (h : s.voucher m = o) : a.voucher m = o := (s.arrive_voucher _ m).trans h
  have offers {o : Option Session} (h : s.claimable k = o) : a.claimable k = o := (s.arrive_claimable _ k).trans h
  refine ⟨next_takeRequest_network hr rfl, fun configure => ?_, fun run unknown => ?_, fun run hk none => ?_,
    fun v run hk hv => ⟨fun bound => ?_, fun b unclaimed hb => ⟨fun idle => ?_, fun n x active hn hx =>
      ⟨fun named => ?_, fun free => ?_⟩⟩⟩⟩
  · exact next_takeRequest_network hr
      (handleClaimVoucher_configure ((s.arrive_isRun _).trans (State.isRun_of_configure configure)))
  · exact next_takeRequest_network hr
      (handleClaimVoucher_unknownBay (inRun run) ((s.arrive_isKnown _ k).trans (decide_eq_false unknown)))
  · exact next_takeRequest_network hr (handleClaimVoucher_unknownVoucher (inRun run) (isKnown hk) (found none))
  · exact next_takeRequest_network hr (handleClaimVoucher_notClaimable (inRun run) (isKnown hk) (found hv) bound)
  · exact next_takeRequest_network hr (handleClaimVoucher_badState (inRun run) (isKnown hk) (found hv) unclaimed
      (offers (State.claimable_idle hb idle)))
  · have refuses := (State.claimable_active hb active hn hx).trans (if_neg (by simpa using named))
    exact next_takeRequest_network hr
      (handleClaimVoucher_badState (inRun run) (isKnown hk) (found hv) unclaimed (offers refuses))
  · have offered := (State.claimable_active hb active hn hx).trans (if_pos (by simpa using free))
    refine next_takeRequest_network hr
      ((handleClaimVoucher_claimed (inRun run) (isKnown hk) (found hv) unclaimed (offers offered)).trans ?_)
    rw [State.claim, State.updSession, State.updVoucher, (s.mem_of_voucher hv).2, (s.mem_of_session hx).2]
    dsimp only
    rw [s.arrive_vl, s.arrive_st]

/-! ### The withdrawal (R138) -/

theorem State.withdrawnReply_bound {v : Voucher} {n : Nat} {x : Session} (hn : v.session = some n)
    (hx : s.session n = some x) : s.withdrawnReply v = .withdrawn (.withdrawn (some n) v.bay x.free) := by
  rw [State.withdrawnReply, State.boundFree, hn, Option.bind_some, hx]
  rfl

section Withdrawing

variable {m : Word}

theorem handleWithdrawVoucher_unknown (h : s.voucher m.toNat = none) :
    handleWithdrawVoucher (.fields m) s = refuse .unknownVoucher s := by
  simp only [handleWithdrawVoucher, h]

variable {v : Voucher} (hv : s.voucher m.toNat = some v)
include hv

theorem handleWithdrawVoucher_unclaimed (h : v.state = .unclaimed) :
    handleWithdrawVoucher (.fields m) s = (s.dropVoucher (some m.toNat), .ok, .withdrawn .removed) := by
  simp only [handleWithdrawVoucher, hv, h, (s.mem_of_voucher hv).2]

variable {n : Nat} {x : Session} (hn : v.session = some n) (hx : s.session n = some x)
include hn hx

theorem handleWithdrawVoucher_claimed (h : v.state = .claimed) : handleWithdrawVoucher (.fields m) s =
    ((s.updVoucher m.toNat fun y => { y with state := .withdrawn }).withdrawCredit (some n), .ok,
      .withdrawn (.withdrawn (some n) v.bay x.free)) := by
  simp only [handleWithdrawVoucher, hv, h, (s.mem_of_voucher hv).2, State.withdrawnReply_bound hn hx, hn]

theorem handleWithdrawVoucher_withdrawn (h : v.state = .withdrawn) : handleWithdrawVoucher (.fields m) s =
    (s, .ok, .withdrawn (.withdrawn (some n) v.bay x.free)) := by
  simp only [handleWithdrawVoucher, hv, h, State.withdrawnReply_bound hn hx]

end Withdrawing

/-- Settles O40: no record, and then a record in each of its states. -/
theorem withdrawVoucherEndsCredit : Obligations.WithdrawVoucherEndsCredit := by
  intro tag m s hr a answered
  refine ⟨next_takeRequest_till hr rfl, fun none => ?_, fun v hv => ?_⟩
  · exact next_takeRequest_till hr (handleWithdrawVoucher_unknown ((s.arrive_voucher _ _).trans none))
  · have found : a.voucher m.toNat = some v := (s.arrive_voucher _ _).trans hv
    refine ⟨fun unclaimed => next_takeRequest_till hr ?_, fun n x hn hx => ?_⟩
    · rw [handleWithdrawVoucher_unclaimed found unclaimed, State.dropVoucher, s.arrive_vl]
    · have session : a.session n = some x := (s.arrive_session _ _).trans hx
      refine ⟨fun claimed => next_takeRequest_till hr ?_, fun withdrawn =>
        next_takeRequest_till hr (handleWithdrawVoucher_withdrawn found hn session withdrawn)⟩
      rw [handleWithdrawVoucher_claimed found hn session claimed, State.withdrawCredit, State.updSession, State.updVoucher]
      dsimp only
      rw [s.arrive_vl, s.arrive_st]

end Sys2Proof.Machine
end

section
/-! The tests of a minute event: voucher expiry (R137), abandonment (R64) and the till hold release (R150). -/

namespace Sys2Proof.Machine

variable {s : State}

/-! ### Voucher expiry (R137) -/

/-- The raises that an event notice has merged; none while it is not pending (R160). -/
def EventNote.merged (old : Option EventNote) : Nat :=
  (old.map (·.count)).getD 0

theorem EventNote.raised_eq (old : Option EventNote) (a b : Detail) :
    EventNote.raised old a b = ⟨min 255 (EventNote.merged old + 1), a, b⟩ := by
  cases old <;> rfl

/-- The state with a notice VOUCHER_EXPIRED pending on port T. -/
def State.noteExpired (note : EventNote) (s : State) : State :=
  { s with sp := { s.sp with
    till := { s.sp.till with events := { s.sp.till.events with voucherExpired := some note } } } }

theorem State.raiseExpired_eq (s : State) (v : Voucher) : s.raiseExpired v =
    s.noteExpired ⟨min 255 (EventNote.merged s.sp.till.events.voucherExpired + 1), .num v.number, .num 0⟩ := by
  rw [← EventNote.raised_eq]
  rfl

/-- One raise for each of several vouchers is one notice that counts them all, with the last as its subject. -/
theorem State.raiseExpired_all (l : List Voucher) (v : Voucher) (s : State) :
    (l ++ [v]).foldl State.raiseExpired s = s.noteExpired
      ⟨min 255 (EventNote.merged s.sp.till.events.voucherExpired + (l ++ [v]).length), .num v.number, .num 0⟩ := by
  induction l generalizing s with
  | nil => exact s.raiseExpired_eq v
  | cons w l ih =>
    rw [List.cons_append, List.foldl_cons, ih, s.raiseExpired_eq w, List.length_cons]
    have counted (c n : Nat) : min 255 (min 255 (c + 1) + n) = min 255 (c + (n + 1)) := by omega
    simp only [State.noteExpired, EventNote.merged, Option.map_some, Option.getD_some, counted]

/-- The vouchers that stay, in the words of R137. -/
theorem filter_not_isExpired (minute : Nat) (vs : List Voucher) : (vs.filter fun v => !v.isExpired minute) =
    vs.filter fun v => decide (¬ (v.state = .unclaimed ∧ v.expiry < minute)) :=
  List.filter_congr fun _ _ => decide_not.symm

theorem State.expireVouchers_none (none : s.vl.vouchers.filter (Voucher.isExpired s.tb.monoMin) = []) :
    s.expireVouchers = s := by
  have all : (s.vl.vouchers.filter fun v => !v.isExpired s.tb.monoMin) = s.vl.vouchers :=
    List.filter_eq_self.2 fun v hv => by simpa using List.filter_eq_nil_iff.1 none v hv
  rw [State.expireVouchers, none, all]
  rfl

theorem State.expireVouchers_some {l : List Voucher} {v : Voucher}
    (gone : s.vl.vouchers.filter (Voucher.isExpired s.tb.monoMin) = l ++ [v]) : s.expireVouchers =
      State.noteExpired
        ⟨min 255 (EventNote.merged s.sp.till.events.voucherExpired + (l ++ [v]).length), .num v.number, .num 0⟩
        { s with vl := { vouchers := s.vl.vouchers.filter fun v => !v.isExpired s.tb.monoMin } } := by
  rw [State.expireVouchers, gone]
  exact State.raiseExpired_all l v _

/-! ### Abandonment (R64) -/

theorem State.isAbandoned_iff (s : State) (b : BayRec) : s.isAbandoned b = true ↔
    1 ≤ b.number ∧ b.number ≤ s.cfg.bayCount ∧ b.state = .fallback ∧
      ∃ m ∈ b.fallbackStart, s.cfg.abandonLimit < s.tb.monoMin - m := by
  cases h : b.fallbackStart <;> simp [State.isAbandoned, State.isKnown, h, and_assoc]

theorem State.abandonedBays_eq (s : State) : s.abandonedBays =
    (s.bt.bays.filter fun b => decide (1 ≤ b.number ∧ b.number ≤ s.cfg.bayCount ∧ b.state = .fallback ∧
      ∃ m ∈ b.fallbackStart, s.cfg.abandonLimit < s.tb.monoMin - m)).map (·.number) :=
  congrArg (List.map _) (List.filter_congr fun b _ =>
    Bool.eq_iff_iff.2 ((s.isAbandoned_iff b).trans decide_eq_true_iff.symm))

/-! ### The till hold release (R150) -/

theorem State.releaseDue_iff (s : State) : s.releaseDue = true ↔
    (s.port .till).presence = .lapsed ∧ s.rq.tillReleased = false ∧
      s.jl.tillHold < s.tb.monoMin - (s.port .till).lapseStart := by
  have lapsed : s.isPresent .till = false ↔ (s.port .till).presence = .lapsed := by
    cases h : (s.port .till).presence <;> simp [State.isPresent, h]
  simp only [State.releaseDue, Bool.and_eq_true, Bool.not_eq_true', lapsed, decide_eq_true_iff, and_assoc]

/-- The receipts owed to nobody leave, and as many places as they held are handed on (R146, R126). -/
theorem State.settle_eq (s : State) :
    let kept := s.rq.receipts.filter fun r => r.owedNetwork || r.owedTill
    s.settle = State.fillPlaces (s.rq.receipts.length - kept.length) { s with rq := { s.rq with receipts := kept } } := by
  intro kept
  have owed : (s.rq.receipts.filter fun r => !r.isSettled) = kept :=
    List.filter_congr fun r _ => by simp [Receipt.isSettled]
  have parts := List.length_eq_length_filter_add (l := s.rq.receipts) Receipt.isSettled
  rw [owed] at parts
  rw [State.settle, owed, parts, Nat.add_sub_cancel]

/-- Settles O44: the three tests, each without and with an effect. -/
theorem minuteEventsSweep : Obligations.MinuteEventsSweep := by
  intro s hh
  have event (f : State → State) : (.next (unlessHeld f s) : Host.Outcome State Fault Refusal) = .next (f s) :=
    congrArg Host.Outcome.next (unlessHeld_free s f hh)
  refine ⟨⟨fun none => ?_, fun l v gone => ?_⟩, fun configure => ?_, fun run => ?_, fun idle => ?_, fun due => ?_⟩
  · exact (event _).trans (congrArg _ (State.expireVouchers_none none))
  · refine (event _).trans (congrArg _ ((State.expireVouchers_some gone).trans ?_))
    rw [filter_not_isExpired, gone]
    rfl
  · exact (event _).trans (congrArg _ (if_neg (by simp [State.isRun_of_configure configure])))
  · refine (event _).trans (congrArg _ ((if_pos (State.isRun_of_run run)).trans ?_))
    rw [State.abandonedBays_eq]
    rfl
  · exact (event _).trans (congrArg _ (if_neg (mt s.releaseDue_iff.1 idle)))
  · exact (event _).trans (congrArg _ ((if_pos (s.releaseDue_iff.2 due)).trans (State.settle_eq _)))

end Sys2Proof.Machine
end

section
/-! The arrival of a valid frame (R153, R157, R158): the port it is heard on, the network's return (R94, R103) and the till's
(R150). -/

namespace Sys2Proof.Machine

variable (s : State)

/-- A port on which a valid frame has been heard: its receiver is empty and its presence restored (R153, R157). -/
def PortState.heard (now : Word) (x : PortState) : PortState :=
  { x with rx := Receiver.ready, presence := .present, timer := some now }

theorem State.arrive_eq (p : Port) : s.arrive p =
    if s.isPresent p then s.updPort p (PortState.heard s.tb.ms) else (s.updPort p (PortState.heard s.tb.ms)).onReturn p := by
  have heard : (s.emptyReceiver p).updPort p (fun x => { x with presence := .present, timer := some s.tb.ms }) =
      s.updPort p (PortState.heard s.tb.ms) := by
    cases p <;> rfl
  rw [State.arrive, State.frameValid, State.emptyReceiver_isPresent, State.emptyReceiver_tb, heard]

/-- A frame on a PRESENT port brings about no return. -/
theorem State.arrive_present {p : Port} (h : s.isPresent p = true) : s.arrive p = s.updPort p (PortState.heard s.tb.ms) := by
  rw [s.arrive_eq, if_pos h]

/-- A frame on a LAPSED port is its return (R158). -/
theorem State.arrive_lapsed {p : Port} (h : s.isPresent p = false) :
    s.arrive p = (s.updPort p (PortState.heard s.tb.ms)).onReturn p := by
  rw [s.arrive_eq, if_neg (by simp [h])]

/-- Of the ports an arrival changes its own alone: it is heard, and the return may raise a notice there (R103). -/
theorem State.arrive_port_same (p : Port) :
    ∃ e, (s.arrive p).port p = { (s.port p).heard s.tb.ms with events := e } := by
  rw [s.arrive_eq]
  split
  · exact ⟨_, s.port_updPort_same p _⟩
  · cases p with
    | network =>
      unfold State.onReturn
      dsimp only
      split <;> exact ⟨_, rfl⟩
    | till => exact ⟨_, rfl⟩
    | energy => exact ⟨_, rfl⟩

theorem State.returnGrants_port_other {q : Port} (h : q ≠ .network) : s.returnGrants.port q = s.port q := by
  cases q with
  | network => exact absurd rfl h
  | till => rfl
  | energy => rfl

theorem State.arrive_port_other {p q : Port} (h : q ≠ p) : (s.arrive p).port q = s.port q := by
  rw [s.arrive_eq]
  have heard := s.port_updPort_other (PortState.heard s.tb.ms) h
  split
  · exact heard
  · refine Eq.trans ?_ heard
    cases p with
    | network =>
      unfold State.onReturn
      dsimp only
      split
      · exact State.returnGrants_port_other _ h
      · rfl
    | till => rfl
    | energy => rfl

/-- What neither a hearing nor a notice changes, an arrival leaves as it was on every port. -/
theorem State.arrive_port_field {α : Type} (f : PortState → α)
    (unheard : ∀ (x : PortState) (now : Word) (e : EventBox), f { x.heard now with events := e } = f x) (p q : Port) :
    f ((s.arrive p).port q) = f (s.port q) := by
  by_cases h : q = p
  · subst h
    obtain ⟨e, heard⟩ := s.arrive_port_same q
    rw [heard, unheard]
  · rw [s.arrive_port_other h]

/-- What the return of the network makes of a grant record, with its new epoch (R94, R103). -/
theorem State.returnGrants_eq (h : s.gt.eg < Config.maxWord) : s.returnGrants =
    State.raise .network .grantsChanged (.num (s.gt.eg + 1)) (.num 0) { s with gt := { s.gt with
      eg := s.gt.eg + 1
      grants := s.gt.grants.map fun x =>
        if s.isInService x.bay then
          { x with e := s.gt.eg + 1, mismatch := if x.g = x.a then x.mismatch else some s.tb.ms }
        else x } } := by
  have next : nextEpoch s.gt.eg = s.gt.eg + 1 := if_neg h.ne
  have returned (x : GrantRec) :
      (fun (y : GrantRec) => if s.isInService y.bay && decide (y.g ≠ y.a) then { y with mismatch := some s.tb.ms } else y)
        (if s.isInService x.bay then { x with e := s.gt.eg + 1 } else x) =
      if s.isInService x.bay then
        { x with e := s.gt.eg + 1, mismatch := if x.g = x.a then x.mismatch else some s.tb.ms }
      else x := by
    by_cases service : s.isInService x.bay = true
    · by_cases equal : x.g = x.a <;> simp [service, equal]
    · simp [service]
  simp only [State.returnGrants, State.takeEpoch, next, State.raise_gt, List.map_map]
  rw [← funext returned]
  rfl

/-- Settles O5: the arrival by port, with and without a return. -/
theorem arrivalRestoresPresence : Obligations.ArrivalRestoresPresence := by
  refine ⟨fun p s quiet => ?_, fun s lapsed run below => ?_⟩
  · cases present : s.isPresent p with
    | true =>
      have still : ¬ (p = .till ∧ s.isPresent .till = false) := fun ⟨e, lapsed⟩ => by simp [e ▸ present] at lapsed
      rw [s.arrive_present present, if_neg still]
      rfl
    | false =>
      rw [s.arrive_lapsed present]
      cases p with
      | network =>
        have stopped : s.isRun = false := by
          rw [← Bool.not_eq_true, s.isRun_iff]
          exact fun run => quiet ⟨rfl, present, run⟩
        simp only [State.onReturn, State.updPort_isRun, stopped]
        rfl
      | till =>
        rw [if_pos ⟨rfl, present⟩]
        rfl
      | energy => rfl
  · have running : (s.updPort .network (PortState.heard s.tb.ms)).isRun = true := State.isRun_of_run run
    rw [s.arrive_lapsed lapsed]
    simp only [State.onReturn, running, if_true]
    rw [State.returnGrants_eq (s.updPort .network _) below]
    rfl

end Sys2Proof.Machine
end

section
/-! PING (R165) and SET NOTICE MASK (R163). -/

namespace Sys2Proof.Machine

variable (s : State)

/-- The answer of the Station Ports, to which every port may send a request (section 11.6). -/
theorem next_takeRequest_any {t : State} {p : Port} {tag code : Byte} {h : Handler} (hr : s.Ready p) {st : Status}
    {r : Reply} (answer : h (s.arrive p) = (t, st, r)) :
    (.next (takeRequest [.network, .till, .energy] p tag code h s) : Host.Outcome State Fault Refusal) =
      .next (t.respond p tag code st r) := by
  have every : p ∈ [Port.network, .till, .energy] := by cases p <;> decide
  rw [takeRequest_taken s _ _ _ _ _ hr.1 hr.2 every, answer]

/-! ### PING (R165) -/

theorem State.arrive_straps (p : Port) : (s.arrive p).straps = s.straps := by
  obtain ⟨gt, rq, sp, h⟩ := s.arrive_frame p
  rw [h]

/-- After an arrival its port is PRESENT, and the others are as they were (R157). -/
theorem State.arrive_isPresent_eq (p q : Port) : (s.arrive p).isPresent q = (decide (p = q) || s.isPresent q) := by
  by_cases h : p = q
  · subst h
    simp [s.arrive_isPresent]
  · simp [State.isPresent, s.arrive_port_other (Ne.symm h), h]

theorem pingOption_of_other {payload : List Byte} (h : 2 ≤ payload.length ∨ ∃ b : Byte, payload = [b] ∧ 2 ≤ b.toNat) :
    pingOption payload = none := by
  unfold pingOption
  split
  · simp at h
  · next b =>
    have above : 2 ≤ b.toNat := by simpa using h
    rw [if_neg (by bv_omega), if_neg (by bv_omega)]
  · rfl

/-- Settles O6: the payload of the answer, and the handler's three ways. -/
theorem pingReportsAndClears : Obligations.PingReportsAndClears := by
  intro p tag s hr
  have lapses (q : Port) := s.arrive_port_field PortState.lapseFlag (fun _ _ _ => rfl) p q
  refine ⟨⟨(s.arrive p).pingReply p, congrArg Straps.bayCount (s.arrive_straps p),
    congrArg Straps.speed (s.arrive_straps p), s.arrive_site p,
    s.arrive_isPresent_eq p _, s.arrive_isPresent_eq p _, s.arrive_isPresent_eq p _, lapses _, lapses _, lapses _,
    s.arrive_port_field PortState.framing (fun _ _ _ => rfl) p p,
    s.arrive_port_field PortState.oversize (fun _ _ _ => rfl) p p,
    s.arrive_port_field PortState.badFrame (fun _ _ _ => rfl) p p,
    s.arrive_port_field PortState.overrun (fun _ _ _ => rfl) p p,
    next_takeRequest_any s hr rfl, next_takeRequest_any s hr rfl, next_takeRequest_any s hr rfl⟩,
    fun payload other => next_takeRequest_any s hr ?_⟩
  rw [handlePing, pingOption_of_other other]
  rfl

/-! ### SET NOTICE MASK (R163) -/

/-- The bits of a port's list are those of its codes (R163). -/
theorem fullMask_getLsbD (p : Port) {i : Nat} (h : i < 16) : (fullMask p).getLsbD i = decide (i < (noticesOf p).length) := by
  rw [fullMask, BitVec.getLsbD_ofNat, Nat.testBit_two_pow_sub_one, decide_eq_true h, Bool.true_and]

theorem maskField_of_length {payload : List Byte} (h : payload.length ≠ 2) : maskField payload = none := by
  unfold maskField
  split
  · exact absurd rfl h
  · rfl

/-- Settles O8: the bits of the stored mask, and the handler's two answers. -/
theorem setNoticeMaskTakesListedBits : Obligations.SetNoticeMaskTakesListedBits := by
  intro p tag b1 b0 s hr
  refine ⟨⟨(b1 ++ b0 : Half) &&& fullMask p, fun code first last => ?_, next_takeRequest_any s hr rfl⟩,
    fun payload length => next_takeRequest_any s hr ?_⟩
  · have listed : (code - 1 < (noticesOf p).length) = (code ≤ (noticesOf p).length) := propext (by omega)
    rw [maskEnables, BitVec.getLsbD_and, fullMask_getLsbD p (by omega), Bool.and_comm]
    simp only [listed]
  · rw [handleSetNoticeMask, maskField_of_length length]
    rfl

end Sys2Proof.Machine
end

section
/-! The commands of a port's lines (R153 to R156): characters, gaps, discards, overruns, unknown commands and response ends. -/

namespace Sys2Proof.Machine

/-! ### The checks of a frame (R154) -/

theorem foldl_add_toNat (l : List Byte) (b : Byte) :
    (l.foldl (· + ·) b).toNat = (b.toNat + (l.map (·.toNat)).sum) % 256 := by
  induction l generalizing b with
  | nil => simp [Nat.mod_eq_of_lt b.isLt]
  | cons c l ih =>
    rw [List.foldl_cons, ih, BitVec.toNat_add, List.map_cons, List.sum_cons]
    omega

/-- The sum of a frame's bytes, as a number (R154). -/
theorem byteSum_toNat (l : List Byte) : (byteSum l).toNat = (l.map (·.toNat)).sum % 256 := by
  rw [byteSum, foldl_add_toNat]
  simp

/-- A byte sum is 0 when the bytes sum to a multiple of 256. -/
theorem byteSum_eq_zero_iff (l : List Byte) : byteSum l = 0 ↔ (l.map (·.toNat)).sum % 256 = 0 := by
  rw [← byteSum_toNat, ← BitVec.toNat_inj]
  rfl

/-- BAD_FRAME's test, in the words of R154. -/
theorem badFrame_iff (l : List Byte) : badFrame l = true ↔ l.length < 4 ∨ ∃ len : Byte, l[2]? = some len ∧
    (240 < len.toNat ∨ l.length ≠ 4 + len.toNat ∨ (l.map (·.toNat)).sum % 256 ≠ 0) := by
  unfold badFrame
  split
  · next a b len rest =>
    simp only [Bool.or_eq_true, decide_eq_true_iff, ne_eq, byteSum_eq_zero_iff, List.getElem?_cons_succ,
      List.getElem?_cons_zero, Option.some.injEq, exists_eq_left', or_assoc]
    exact Iff.rfl
  · next short =>
    have few : l.length < 4 := by
      rcases l with _ | ⟨a, _ | ⟨b, _ | ⟨c, l⟩⟩⟩
      · simp
      · simp
      · simp
      · exact absurd rfl (short a b c l)
    simp [few]

/-- A code outside the catalogue is unknown (R156). -/
theorem codeUnknown_iff (code : Byte) : codeUnknown code = true ↔ code ∉ catalogueCodes := by
  simp [codeUnknown]

/-- The checks of R154 in their order: a low stop bit, the length, the frame itself. -/
theorem frameFailure_low {rx : Receiver} (low : rx.stopLow = true) : frameFailure rx = some 0 :=
  if_pos low

theorem frameFailure_long {rx : Receiver} (high : rx.stopLow = false) (long : 245 < rx.count) :
    frameFailure rx = some 1 :=
  (if_neg (by simp [high])).trans (if_pos long)

theorem frameFailure_within {rx : Receiver} (high : rx.stopLow = false) (within : rx.count ≤ 245) :
    frameFailure rx = if badFrame rx.bytes then some 2 else none :=
  (if_neg (by simp [high])).trans (if_neg (Nat.not_lt.2 within))

/-! ### One port's record replaced -/

variable {s : State} {p : Port}

/-- The state with one port's record replaced. -/
def State.putPort (p : Port) (y : PortState) (s : State) : State :=
  { s with sp := s.sp.set p y }

theorem State.putPort_self (s : State) (p : Port) : s.putPort p (s.port p) = s := by
  cases p <;> rfl

/-- A port changed by a frame whose receiver is then empty (R153). -/
theorem State.updPort_emptyReceiver (s : State) (p : Port) (f : PortState → PortState) :
    (s.updPort p f).emptyReceiver p = s.putPort p { f (s.port p) with rx := Receiver.ready } := by
  cases p <;> rfl

theorem State.emptyReceiver_respond (s : State) (p : Port) (tag code : Byte) (st : Status) (r : Reply) :
    (s.emptyReceiver p).respond p tag code st r =
      s.putPort p { s.port p with rx := Receiver.ready, tx := some ⟨tag, code, st, r⟩ } := by
  cases p <;> rfl

theorem State.countOverrun_eq (s : State) (p : Port) : s.countOverrun p =
    s.putPort p { s.port p with overrun := min ((s.port p).overrun + 1) 65535, rx := Receiver.ready } :=
  s.updPort_emptyReceiver p _

/-- A frame that fails a check adds to its counter and leaves the receiver empty (R154). -/
theorem State.discardFrame_of_failure (s : State) (p : Port) {k : Nat} (count : (s.port p).rx.count ≠ 0)
    (idle : (s.port p).tx = none) (failure : frameFailure (s.port p).rx = some k) : s.discardFrame p =
      s.putPort p { (s.port p).countFailure k with rx := Receiver.ready } := by
  simp only [State.discardFrame, if_neg count, idle, failure]
  exact s.updPort_emptyReceiver p _

/-- A frame without characters, or one that passes every check, is not discarded (R154, log 4). -/
theorem State.discardFrame_of_sound (idle : (s.port p).tx = none) (sound : frameFailure (s.port p).rx = none) :
    s.discardFrame p = s := by
  simp [State.discardFrame, idle, sound]

/-- An event that finds no reset held goes where its effect does (R173). -/
theorem next_unlessHeld {f : State → State} {t : State} (hh : s.held = none) (h : f s = t) :
    (.next (unlessHeld f s) : Host.Outcome State Fault Refusal) = .next t := by
  rw [unlessHeld_free s f hh, h]

/-- Settles O42: each line event, and a completed frame by the first check that it fails. -/
theorem lineEventsActOnPort : Obligations.LineEventsActOnPort := by
  intro p s hh x put overrun bad
  have hbad : badFrame x.rx.bytes = true ↔ bad := badFrame_iff _
  have failed (k : Nat) (count : x.rx.count ≠ 0) (idle : x.tx = none) (failure : frameFailure x.rx = some k) :=
    next_unlessHeld hh (s.discardFrame_of_failure p count idle failure)
  refine ⟨fun byte low gap => next_unlessHeld hh ?_, fun byte low gap => next_unlessHeld hh ?_, next_unlessHeld hh rfl,
    next_unlessHeld hh rfl, fun busy => ?_, fun idle => ?_⟩
  · have same : x.rx.take byte low = x.rx := if_pos gap
    exact (congrArg (fun rx => s.putPort p { x with rx := rx }) same).trans (s.putPort_self p)
  · have stored : x.rx.take byte low = _ := if_neg (by simp [gap])
    exact congrArg (fun rx => s.putPort p { x with rx := rx }) stored
  · have sending : x.tx.isSome = true := Option.isSome_iff_ne_none.2 busy
    have counted := s.countOverrun_eq p
    refine ⟨next_unlessHeld hh ((if_pos sending).trans counted), fun count => next_unlessHeld hh ?_,
      fun tag code unknown => next_unlessHeld hh ?_⟩
    · exact (if_neg count).trans ((if_pos sending).trans counted)
    · exact (if_pos ((codeUnknown_iff code).2 unknown)).trans ((if_pos sending).trans counted)
  · have silent : ¬ x.tx.isSome = true := by simp [idle]
    refine ⟨next_unlessHeld hh (if_neg silent), fun tag code unknown => next_unlessHeld hh ?_, fun count low => ?_,
      fun long high => ?_, fun count within high malformed => ?_, fun within high sound => next_unlessHeld hh ?_⟩
    · have answered := s.emptyReceiver_respond p tag code .badRequest .empty
      exact (if_pos ((codeUnknown_iff code).2 unknown)).trans ((if_neg silent).trans answered)
    · exact failed 0 count idle (frameFailure_low low)
    · exact failed 1 (by omega) idle (frameFailure_long high long)
    · exact failed 2 count idle ((frameFailure_within high within).trans (if_pos (hbad.2 malformed)))
    · exact State.discardFrame_of_sound idle ((frameFailure_within high within).trans (if_neg (mt hbad.1 sound)))

end Sys2Proof.Machine
end

section
/-! The expiries of presence (R157, R61, R102), silence (R20), acknowledgement (R100) and reports (R57). -/

namespace Sys2Proof.Machine

variable {s : State}

/-! ### Presence (R157, R61, R102) -/

theorem State.presenceDue_iff {p : Port} {t : Word} (timer : (s.port p).timer = some t) : s.presenceDue p = true ↔
    (s.port p).presence = .present ∧ s.presenceMs p < elapsed s.tb.ms t := by
  simp [State.presenceDue, timer, State.isPresent_iff]

/-- The lapse treatment, block by block (R61, R102). -/
theorem State.lapseTreatment_eq (s : State) : s.lapseTreatment = { s with
    bt := { s.bt with bays := s.bt.bays.map (BayRec.lapse s.tb.monoMin) }
    gt := { s.gt with grants := s.gt.grants.map fun x =>
      if s.isInService x.bay then x.lapse s.cfg.fallbackPower else x } } := by
  rw [← s.lapseTreatment_grants]
  rfl

theorem State.expirePresence_idle {p : Port} (h : ¬ s.presenceDue p = true) : s.expirePresence p = s :=
  if_neg h

/-- A port's lapse concerns itself alone, unless it is port N's in RUN (R157). -/
theorem State.expirePresence_alone {p : Port} (h : s.presenceDue p = true) (alone : ¬ (p = .network ∧ s.site = .run)) :
    s.expirePresence p = s.lapsePort p := by
  rw [State.expirePresence, if_pos h]
  cases p with
  | network => exact if_neg fun run => alone ⟨rfl, s.isRun_iff.1 run⟩
  | till => rfl
  | energy => rfl

theorem State.expirePresence_network (h : s.presenceDue .network = true) (run : s.site = .run) :
    s.expirePresence .network = (s.lapsePort .network).lapseTreatment := by
  rw [State.expirePresence, if_pos h]
  exact if_pos (s.isRun_iff.2 run)

/-! ### Silence, acknowledgement and reports (R20, R100, R57) -/

theorem State.silenceDue_iff (s : State) (c : Channel) : s.silenceDue c = true ↔
    (s.chanCfg c).enabled = true ∧ (s.chan c).silent = false ∧
      s.judgedSilenceMs < elapsed s.tb.ms (s.chan c).silenceRef := by
  simp [State.silenceDue, and_assoc]

theorem State.overdueDue_iff (s : State) (k : Nat) : s.overdueDue k = true ↔
    s.site = .run ∧ (s.port .network).presence = .present ∧ s.isInService k = true ∧ (s.grant k).overdue = false ∧
      ∃ t ∈ (s.grant k).mismatch, s.cfg.ackLimit * 1000 < elapsed s.tb.ms t := by
  cases h : (s.grant k).mismatch <;>
    simp [State.overdueDue, State.isRun_iff, State.isPresent_iff, h, and_assoc]

/-- One bay's check at a due tick, in the words of R57. -/
theorem State.markStaleBay_eq (s : State) (k : Nat) : s.markStaleBay k = { s with bt := { s.bt with
    bays := s.bt.bays.map fun b => if b.number = k ∧ 1 ≤ k ∧ k ≤ s.cfg.bayCount ∧ b.state = .active ∧
      s.cfg.reportLimit * 1000 < elapsed s.tb.ms b.lastReport then { b with stale := true } else b } } := by
  have marked (b : BayRec) : (if b.number = k then if s.isOverAge b then { b with stale := true } else b else b) =
      if b.number = k ∧ 1 ≤ k ∧ k ≤ s.cfg.bayCount ∧ b.state = .active ∧
        s.cfg.reportLimit * 1000 < elapsed s.tb.ms b.lastReport then { b with stale := true } else b := by
    by_cases h : b.number = k
    · simp [State.isOverAge, State.isKnown, h, and_assoc]
    · simp [h]
  rw [← funext marked]
  rfl

/-- Settles O46: each expiry with and without its condition. -/
theorem expiriesMark : Obligations.ExpiriesMark := by
  intro s hh
  refine ⟨fun p limit t timer hl => ?_, fun c => ?_, fun k => ?_, fun k tick schedule => ?_⟩
  · intro due port lapsed
    have inForce : s.presenceMs p = limit * 1000 := by
      subst hl
      cases p <;> rfl
    have iff : s.presenceDue p = true ↔ due := (State.presenceDue_iff timer).trans (by rw [inForce]; rfl)
    refine ⟨fun idle => next_unlessHeld hh (State.expirePresence_idle (mt iff.1 idle)),
      fun h alone => next_unlessHeld hh (State.expirePresence_alone (iff.2 h) alone), fun h network run => ?_⟩
    subst network
    refine next_unlessHeld hh ((State.expirePresence_network (iff.2 h) run).trans ?_)
    rw [State.lapseTreatment_eq]
    rfl
  · have iff := s.silenceDue_iff c
    exact ⟨fun idle => next_unlessHeld hh (if_neg (mt iff.1 idle)), fun h => next_unlessHeld hh (if_pos (iff.2 h))⟩
  · have iff := s.overdueDue_iff k
    exact ⟨fun idle => next_unlessHeld hh (if_neg (mt iff.1 idle)), fun h => next_unlessHeld hh (if_pos (iff.2 h))⟩
  · have iff := s.tickDue_iff schedule
    exact ⟨fun idle => next_unlessHeld hh (if_neg (mt iff.1 idle)),
      fun h => next_unlessHeld hh ((if_pos (iff.2 h)).trans (s.markStaleBay_eq k))⟩

end Sys2Proof.Machine
end

section
/-! Requests that are turned away, and the one response to every request taken (R155, R156). -/

namespace Sys2Proof.Machine

/-! ### Operations that leave the transmit lines alone -/

/-- On every port the transmit line goes on with what it was sending (R155, R156). -/
def State.LinesKept (s t : State) : Prop :=
  ∀ q, (t.port q).tx = (s.port q).tx

variable {s t u : State}

theorem State.LinesKept.refl (s : State) : s.LinesKept s := fun _ => rfl

theorem State.LinesKept.trans (h : s.LinesKept t) (h' : t.LinesKept u) : s.LinesKept u := fun q => (h' q).trans (h q)

/-- An alternative keeps the lines if both its ways do. -/
theorem State.LinesKept.ite {c : Prop} [Decidable c] (h : s.LinesKept t) (h' : s.LinesKept u) :
    s.LinesKept (if c then t else u) := by
  split
  · exact h
  · exact h'

/-- What leaves the ports alone keeps their lines. -/
theorem State.LinesKept.of_sp (h : t.sp = s.sp) : s.LinesKept t := fun q => congrArg (fun x => (x.get q).tx) h

variable (s)

theorem State.updPort_linesKept (p : Port) (f : PortState → PortState) (h : ∀ x, (f x).tx = x.tx) :
    s.LinesKept (s.updPort p f) := fun q => by
  rw [s.port_updPort]
  split
  · next e => rw [h, e]
  · rfl

theorem State.raise_linesKept (p : Port) (n : Notice) (a b : Detail) : s.LinesKept (s.raise p n a b) :=
  fun q => s.raise_tx p q n a b

theorem State.takeEpoch_linesKept (f : Nat → Bool) : s.LinesKept (s.takeEpoch f) :=
  State.raise_linesKept { s with gt := _ } _ _ _ _

theorem State.arrive_linesKept (p : Port) : s.LinesKept (s.arrive p) :=
  s.arrive_port_field PortState.tx (fun _ _ _ => rfl) p

theorem State.lowerByReport_linesKept (k n : Nat) : s.LinesKept (s.lowerByReport k n) :=
  State.LinesKept.ite (State.takeEpoch_linesKept (s.updGrant k _) _) (.refl s)

theorem State.outGrant_linesKept (k : Nat) : s.LinesKept (s.outGrant k) :=
  State.LinesKept.ite (.of_sp rfl) (State.takeEpoch_linesKept (s.updGrant k _) _)

/-- A closing keeps to the bays, the sessions, the vouchers and the receipts (R124). -/
theorem State.closeSession_linesKept (k : Nat) (c : CloseCause) (x : BayState) : s.LinesKept (s.closeSession k c x) := by
  obtain ⟨bt, st, vl, rq, h⟩ := s.closeSession_frame k c x
  rw [h]
  exact .of_sp rfl

theorem State.takeReceipt_linesKept (p : Port) (n : Nat) : s.LinesKept (s.takeReceipt p n) := by
  obtain ⟨bt, st, rq, h⟩ := s.takeReceipt_frame p n
  rw [h]
  exact .of_sp rfl

theorem State.takeEntry_linesKept (x : ReportEntry) : s.LinesKept (s.takeEntry x) := by
  unfold State.takeEntry
  split
  · exact .refl s
  · next b _ =>
    have refreshed : s.LinesKept (s.refreshBay b x) :=
      State.LinesKept.ite (State.lowerByReport_linesKept (s.updBay _ _) _ _) (.of_sp rfl)
    obtain ⟨bt, st, vl, rq, h⟩ := (s.refreshBay b x).reportAction_frame b x (elapsed s.tb.ms b.lastReport)
    rw [h]
    exact refreshed

theorem State.takeEntries_linesKept (l : List ReportEntry) : s.LinesKept (takeEntries l s).1 := by
  induction l generalizing s with
  | nil => exact .refl s
  | cons x l ih => exact (s.takeEntry_linesKept x).trans (ih _)

theorem State.takeIn_linesKept (b : BayRec) : s.LinesKept (s.takeIn b) := by
  obtain ⟨bt, h⟩ := s.takeIn_frame b
  rw [h]
  exact .of_sp rfl

theorem State.takeOut_linesKept (b : BayRec) : s.LinesKept (s.takeOut b) := by
  unfold State.takeOut
  split
  · exact (s.closeSession_linesKept _ _ _).trans (State.outGrant_linesKept _ _)
  · exact (s.closeSession_linesKept _ _ _).trans (State.outGrant_linesKept _ _)
  · exact State.outGrant_linesKept ((s.leaveWait _).setBayState _ _) _
  · exact State.outGrant_linesKept (s.setBayState _ _) _
  · exact State.outGrant_linesKept (s.setBayState _ _) _
  · exact .refl s

theorem State.recordWindow_linesKept (w : Window) (n : Nat) (cut : Bool) : s.LinesKept (s.recordWindow w n cut) :=
  State.LinesKept.ite (State.raise_linesKept { s with dg := _ } _ _ _ _) (.of_sp rfl)

theorem State.clockCut_linesKept (before : State) : s.LinesKept (s.clockCut before) := by
  unfold State.clockCut
  split
  · exact .refl s
  · exact (s.recordWindow_linesKept _ _ true).trans (.of_sp rfl)

theorem State.configureCut_linesKept : s.LinesKept s.configureCut := by
  unfold State.configureCut
  split
  · exact .refl s
  · exact (s.recordWindow_linesKept _ _ true).trans (.of_sp rfl)

theorem State.configure_linesKept : s.LinesKept s.configure :=
  s.configureCut_linesKept.trans (.of_sp rfl)

theorem State.lapsePresent_linesKept (p : Port) : s.LinesKept (s.lapsePresent p) :=
  State.LinesKept.ite (s.updPort_linesKept p _ fun _ => rfl) (.refl s)

theorem State.commit_linesKept : s.LinesKept s.commit := by
  have lapsed := (State.lapsePresent_linesKept s.commitBlocks .network).trans (State.lapsePresent_linesKept _ .till)
  exact State.LinesKept.trans (t := s.commitBlocks) (.of_sp rfl) (lapsed.trans (State.lapsePresent_linesKept _ .energy))

/-! ### Blocks that leave the transmit lines alone -/

/-- A block that answers a request leaves the lines to the response that follows (R156). -/
def KeepsLines (h : Handler) : Prop :=
  ∀ s : State, s.LinesKept (h s).1

/-- A block that only reads keeps the lines. -/
theorem KeepsLines.of_state {h : Handler} (hh : ∀ s : State, (h s).1 = s) : KeepsLines h := fun s => .of_sp (by rw [hh])

theorem bareRequest_keepsLines (payload : List Byte) {h : Handler} (hh : KeepsLines h) :
    KeepsLines (bareRequest payload h) := fun s => by
  cases payload with
  | nil => exact hh s
  | cons b l => exact .refl s

theorem handlePing_keepsLines (p : Port) (payload : List Byte) : KeepsLines (handlePing p payload) := fun s => by
  unfold handlePing
  split
  · exact .refl s
  · exact State.LinesKept.ite (s.updPort_linesKept p _ fun _ => rfl) (.refl s)

theorem handleReadNotice_keepsLines (p : Port) (payload : List Byte) : KeepsLines (handleReadNotice p payload) := fun s => by
  unfold handleReadNotice State.clearNotice
  split
  · exact .refl s
  · dsimp only
    split
    · exact .refl s
    · exact s.updPort_linesKept p _ fun _ => rfl

theorem handleSetNoticeMask_keepsLines (p : Port) (payload : List Byte) : KeepsLines (handleSetNoticeMask p payload) :=
  fun s => by
    unfold handleSetNoticeMask
    split
    · exact .refl s
    · next m _ => exact s.updPort_linesKept p (fun x => { x with mask := m &&& fullMask p }) fun _ => rfl

theorem handleWriteConfig_keepsLines (body : Body (List ConfigPair)) : KeepsLines (handleWriteConfig body) := fun s => by
  unfold handleWriteConfig
  split
  · exact .refl s
  · split
    · exact .refl s
    · split
      · exact .refl s
      · exact .of_sp rfl

theorem handleCommitSite_keepsLines (payload : List Byte) : KeepsLines (handleCommitSite payload) :=
  bareRequest_keepsLines payload fun s => by
    split
    · exact .refl s
    · split
      · exact .refl s
      · exact s.commit_linesKept

theorem handleEnterConfigure_keepsLines (payload : List Byte) : KeepsLines (handleEnterConfigure payload) :=
  bareRequest_keepsLines payload fun s => by
    split
    · exact .refl s
    · split
      · exact s.configure_linesKept
      · exact .refl s

theorem handleSetLimits_keepsLines (body : Body LimitFields) : KeepsLines (handleSetLimits body) := fun s => by
  unfold handleSetLimits
  split
  · exact .refl s
  · split
    · exact .refl s
    · exact .of_sp rfl

theorem handleSetTariff_keepsLines (body : Body (List BandFields)) : KeepsLines (handleSetTariff body) := fun s => by
  unfold handleSetTariff
  split
  · exact .refl s
  · split
    · exact .of_sp rfl
    · exact .refl s

theorem handleSetClock_keepsLines (payload : List Byte) : KeepsLines (handleSetClock payload) := fun s => by
  unfold handleSetClock
  split
  · exact .refl s
  · next minute seconds _ =>
    have set : s.LinesKept { s with tb := s.tb.setClock minute seconds } := .of_sp rfl
    exact State.LinesKept.ite (set.trans (State.clockCut_linesKept _ s)) set

theorem handleBayReports_keepsLines (payload : List Byte) : KeepsLines (handleBayReports payload) := fun s => by
  unfold handleBayReports
  split
  · exact .refl s
  · split
    · exact .refl s
    · split
      · exact .refl s
      · exact s.takeEntries_linesKept _

theorem handleAckGrants_keepsLines (payload : List Byte) : KeepsLines (handleAckGrants payload) := fun s => by
  unfold handleAckGrants
  split
  · exact .refl s
  · split
    · exact .refl s
    · exact State.LinesKept.ite (.refl s) (.of_sp rfl)

theorem handleEndSession_keepsLines (payload : List Byte) : KeepsLines (handleEndSession payload) := fun s => by
  unfold handleEndSession
  split
  · exact .refl s
  · split
    · exact .refl s
    · split
      · exact .refl s
      · split
        · exact .refl s
        · split
          · exact s.closeSession_linesKept _ _ _
          · exact .refl s

theorem handleSetBayService_keepsLines (payload : List Byte) : KeepsLines (handleSetBayService payload) := fun s => by
  unfold handleSetBayService
  split
  · exact .refl s
  · split
    · exact .refl s
    · split
      · exact .refl s
      · next b _ => exact (s.takeIn_linesKept b).ite (s.takeOut_linesKept b)

theorem handleClaimVoucher_keepsLines (body : Body ClaimFields) : KeepsLines (handleClaimVoucher body) := fun s => by
  unfold handleClaimVoucher
  split
  · exact .refl s
  · split
    · exact .refl s
    · split
      · exact .refl s
      · split
        · exact .refl s
        · split
          · exact .refl s
          · split
            · exact .refl s
            · exact .of_sp rfl

theorem handlePostVoucher_keepsLines (body : Body PostFields) : KeepsLines (handlePostVoucher body) := fun s => by
  unfold handlePostVoucher
  split
  · exact .refl s
  · split
    · exact .refl s
    · split
      · exact .refl s
      · split
        · exact .refl s
        · split
          · exact .refl s
          · exact .of_sp rfl

theorem handleWithdrawVoucher_keepsLines (body : Body Word) : KeepsLines (handleWithdrawVoucher body) := fun s => by
  unfold handleWithdrawVoucher
  split
  · exact .refl s
  · split
    · exact .refl s
    · next v _ =>
      split
      · exact .of_sp rfl
      · obtain ⟨st, h⟩ := (s.updVoucher v.number fun y => { y with state := .withdrawn }).withdrawCredit_frame v.session
        dsimp only
        rw [h]
        exact .of_sp rfl
      · exact .refl s

theorem handleTakeReceipt_keepsLines (p : Port) (body : Body Word) : KeepsLines (handleTakeReceipt p body) := fun s => by
  unfold handleTakeReceipt
  split
  · exact .refl s
  · split
    · exact .refl s
    · split
      · exact s.takeReceipt_linesKept p _
      · exact .refl s

/-! ### Every request of the catalogue -/

/-- A request of the catalogue is taken on the ports of its row, and its block keeps the lines (section 11.6, R156). -/
def RequestServed (i : Instr) : Prop :=
  ∀ (p : Port) (tag code : Byte), requestHead i = some (p, tag) → catalogueCode i = some code →
    ∃ h, KeepsLines h ∧ ∀ s, exec i s = .next (takeRequest (cataloguePorts code) p tag code h s)

theorem RequestServed.of_block {i : Instr} {p : Port} {tag code : Byte} {h : Handler}
    (head : requestHead i = some (p, tag)) (row : catalogueCode i = some code) (lines : KeepsLines h)
    (meaning : ∀ s, exec i s = .next (takeRequest (cataloguePorts code) p tag code h s)) : RequestServed i := by
  intro q tag' code' head' row'
  obtain ⟨rfl, rfl⟩ : p = q ∧ tag = tag' := by simpa using head.symm.trans head'
  obtain rfl : code = code' := by simpa using row.symm.trans row'
  exact ⟨h, lines, meaning⟩

/-- An event is no request of the catalogue. -/
theorem RequestServed.of_event {i : Instr} (event : requestHead i = none) : RequestServed i :=
  fun _ _ _ head => nomatch event.symm.trans head

theorem requestServed (i : Instr) : RequestServed i := by
  cases i with
  | ping p tag payload => exact .of_block rfl rfl (handlePing_keepsLines p payload) fun _ => rfl
  | readNotice p tag payload => exact .of_block rfl rfl (handleReadNotice_keepsLines p payload) fun _ => rfl
  | setNoticeMask p tag payload => exact .of_block rfl rfl (handleSetNoticeMask_keepsLines p payload) fun _ => rfl
  | writeConfig p tag body => exact .of_block rfl rfl (handleWriteConfig_keepsLines body) fun _ => rfl
  | readConfig p tag payload => exact .of_block rfl rfl (.of_state (bareRequest_state · payload _ rfl)) fun _ => rfl
  | commitSite p tag payload => exact .of_block rfl rfl (handleCommitSite_keepsLines payload) fun _ => rfl
  | enterConfigure p tag payload => exact .of_block rfl rfl (handleEnterConfigure_keepsLines payload) fun _ => rfl
  | setLimits p tag body => exact .of_block rfl rfl (handleSetLimits_keepsLines body) fun _ => rfl
  | setTariff p tag body => exact .of_block rfl rfl (handleSetTariff_keepsLines body) fun _ => rfl
  | setClock p tag payload => exact .of_block rfl rfl (handleSetClock_keepsLines payload) fun _ => rfl
  | readSite p tag payload => exact .of_block rfl rfl (bareRequest_keepsLines payload fun _ => .of_sp rfl) fun _ => rfl
  | readWindows p tag payload => exact .of_block rfl rfl (.of_state (bareRequest_state · payload _ rfl)) fun _ => rfl
  | readChannels p tag payload => exact .of_block rfl rfl (.of_state (bareRequest_state · payload _ rfl)) fun _ => rfl
  | readSession p tag body => exact .of_block rfl rfl (.of_state (handleReadSession_state · body)) fun _ => rfl
  | bayReports p tag payload => exact .of_block rfl rfl (handleBayReports_keepsLines payload) fun _ => rfl
  | readGrants p tag payload => exact .of_block rfl rfl (.of_state fun _ => rfl) fun _ => rfl
  | ackGrants p tag payload => exact .of_block rfl rfl (handleAckGrants_keepsLines payload) fun _ => rfl
  | endSession p tag payload => exact .of_block rfl rfl (handleEndSession_keepsLines payload) fun _ => rfl
  | setBayService p tag payload => exact .of_block rfl rfl (handleSetBayService_keepsLines payload) fun _ => rfl
  | claimVoucher p tag body => exact .of_block rfl rfl (handleClaimVoucher_keepsLines body) fun _ => rfl
  | readBay p tag payload => exact .of_block rfl rfl (.of_state (handleReadBay_state · payload)) fun _ => rfl
  | postVoucher p tag body => exact .of_block rfl rfl (handlePostVoucher_keepsLines body) fun _ => rfl
  | withdrawVoucher p tag body => exact .of_block rfl rfl (handleWithdrawVoucher_keepsLines body) fun _ => rfl
  | readVoucher p tag body => exact .of_block rfl rfl (.of_state (handleReadVoucher_state · body)) fun _ => rfl
  | peekReceipt p tag payload => exact .of_block rfl rfl (.of_state (handlePeekReceipt_state · p payload)) fun _ => rfl
  | takeReceipt p tag body => exact .of_block rfl rfl (handleTakeReceipt_keepsLines p body) fun _ => rfl
  | frameDiscard | overrun | unknownCommand | responseEnd | monotonicMinuteEvent | clockMinuteEvent | roundTick | staleMark
  | periodEnd | presenceExpiry | silenceExpiry | overdueExpiry | windowEnd | voucherExpiry | abandonment | tillHoldRelease
  | pulse | inactiveLevelChange | boundAssertion | boundDeassertion | powerUpReset | pinReset | resetRelease | vbakFailure
  | filterSample | characterReceived | receiverGap => exact .of_event rfl

variable {s}

/-- A response starts on its port's line and on no other (R156). -/
theorem State.LinesKept.respond (kept : s.LinesKept t) (p : Port) (tag code : Byte) (st : Status) (x : Reply) :
    ∃ r, ((t.respond p tag code st x).port p).tx = some r ∧ r.tag = tag ∧ r.code = code ∧
      ∀ q, q ≠ p → ((t.respond p tag code st x).port q).tx = (s.port q).tx :=
  ⟨_, congrArg PortState.tx (t.port_updPort_same p _), rfl, rfl, fun q other =>
    (congrArg PortState.tx (t.port_updPort_other _ other)).trans (kept q)⟩

/-- Settles O4: the ways a request goes, and the lines that its block keeps. -/
theorem requestsTurnedAwayOrAnswered : Obligations.RequestsTurnedAwayOrAnswered := by
  refine ⟨fun i p tag code s head row free => ?_, fun i p tag code s head row ready => ?_⟩
  · obtain ⟨h, -, meaning⟩ := requestServed i p tag code head row
    refine ⟨fun busy => ?_, fun idle absent => ?_⟩
    · have counted : s.countOverrun p =
          s.updPort p fun x => { x with overrun := min (x.overrun + 1) 65535, rx := Receiver.ready } := by
        cases p <;> rfl
      rw [meaning, takeRequest_busy s _ _ _ _ _ free busy, counted]
    · rw [meaning, takeRequest_refused s _ _ _ _ _ free idle absent]
  · obtain ⟨h, lines, meaning⟩ := requestServed i p tag code head row
    obtain ⟨free, idle⟩ := ready
    have arrived := s.arrive_linesKept p
    by_cases listed : p ∈ cataloguePorts code
    · obtain ⟨r, answer⟩ := (arrived.trans (lines _)).respond p tag code (h (s.arrive p)).2.1 (h (s.arrive p)).2.2
      exact ⟨_, r, by rw [meaning, takeRequest_taken s _ _ _ _ _ free idle listed], answer⟩
    · obtain ⟨r, answer⟩ := arrived.respond p tag code .notPermitted .empty
      exact ⟨_, r, by rw [meaning, takeRequest_refused s _ _ _ _ _ free idle listed], answer⟩

end Sys2Proof.Machine
end

section
/-! The notices (R56, R62, R88, R101, R151, R160, R161) and READ NOTICE (R162). -/

namespace Sys2Proof.Machine

/-! ### The codes of a port (section 11.4) -/

/-- A port's notices stand in the order of their codes. -/
theorem codedNotices_rising (p : Port) : ((codedNotices p).map Prod.fst).Pairwise (· < ·) := by
  cases p <;> decide

theorem noticesOf_length_le (p : Port) : (noticesOf p).length ≤ 9 := by
  cases p <;> decide

theorem codedNotices_length (p : Port) : (codedNotices p).length = (noticesOf p).length := by
  cases p <;> rfl

/-- The codes of a port begin with 1 and go on without a gap. -/
theorem codedNotices_range {p : Port} {x : Nat × Notice} (h : x ∈ codedNotices p) : 1 ≤ x.1 ∧ x.1 ≤ (noticesOf p).length := by
  have place := List.mem_range'_1.1 (List.of_mem_zip h).1
  omega

/-- A code names one notice of a port. -/
theorem codedNotices_distinct {p : Port} {x y : Nat × Notice} (hx : x ∈ codedNotices p) (hy : y ∈ codedNotices p)
    (code : x.1 = y.1) : x = y :=
  List.inj_on_of_nodup_map ((codedNotices_rising p).imp ne_of_lt) hx hy code

/-- A search in the order of the codes finds the notice with the lowest code that meets its test. -/
theorem find?_codedNotices {p : Port} {f : Nat × Notice → Bool} {x : Nat × Notice} (hx : x ∈ codedNotices p)
    (meets : f x = true) (lowest : ∀ y ∈ codedNotices p, y.1 < x.1 → f y = false) : (codedNotices p).find? f = some x := by
  obtain ⟨before, after, split⟩ := List.append_of_mem hx
  refine List.find?_eq_some_iff_append.2 ⟨meets, before, after, split, fun y hy => ?_⟩
  have rising := codedNotices_rising p
  rw [split, List.map_append, List.map_cons] at rising
  have lower : y.1 < x.1 := (List.pairwise_append.1 rising).2.2 _ (List.mem_map_of_mem hy) _ (List.mem_cons_self ..)
  simp [lowest y (split ▸ List.mem_append_left _ hy) lower]

/-! ### The selection of READ NOTICE (R162) -/

variable {s : State} {p : Port} {code : Nat} {n : Notice}

theorem noticeName_code (h : (code, n) ∈ codedNotices p) : noticeName p [BitVec.ofNat 8 code] = some (some code) := by
  have range := codedNotices_range h
  have few := noticesOf_length_le p
  have value : (BitVec.ofNat 8 code).toNat = code := by
    rw [BitVec.toNat_ofNat, Nat.mod_eq_of_lt]
    dsimp only at range
    omega
  simp only [noticeName, value]
  exact if_pos range

theorem noticeName_of_other {payload : List Byte}
    (h : 2 ≤ payload.length ∨ ∃ b : Byte, payload = [b] ∧ (b = 0 ∨ (codedNotices p).length < b.toNat)) :
    noticeName p payload = none := by
  unfold noticeName
  split
  · simp at h
  · next b =>
    have outside : b = 0 ∨ (noticesOf p).length < b.toNat := by simpa [codedNotices_length] using h
    refine if_neg fun range => ?_
    rcases outside with rfl | above
    · exact absurd range.1 (by decide)
    · omega
  · rfl

/-- An unnamed read shows the pending, enabled notice with the lowest code. -/
theorem State.selectNotice_lowest (h : (code, n) ∈ codedNotices p) (pending : s.isPending p n = true)
    (enabled : maskEnables (s.port p).mask code = true)
    (lowest : ∀ c m, (c, m) ∈ codedNotices p → c < code → s.isPending p m = true → maskEnables (s.port p).mask c = false) :
    s.selectNotice p none = some (code, n) := by
  refine find?_codedNotices h (by simp [State.isShown, pending, enabled]) fun ⟨c, m⟩ listed lower => ?_
  cases shown : s.isPending p m with
  | false => simp [State.isShown, shown]
  | true => simp [State.isShown, lowest c m listed lower shown]

/-- A named read shows the named notice if it is pending. -/
theorem State.selectNotice_named (h : (code, n) ∈ codedNotices p) (pending : s.isPending p n = true) :
    s.selectNotice p (some code) = some (code, n) := by
  refine find?_codedNotices h (by simp [pending]) fun y _ lower => ?_
  simp [ne_of_lt lower]

theorem State.selectNotice_nothing
    (h : ∀ c m, (c, m) ∈ codedNotices p → s.isPending p m = true → maskEnables (s.port p).mask c = false) :
    s.selectNotice p none = none := by
  refine List.find?_eq_none.2 fun ⟨c, m⟩ listed => ?_
  simpa [State.isShown] using h c m listed

theorem State.selectNotice_absent (h : (code, n) ∈ codedNotices p) (absent : s.isPending p n = false) :
    s.selectNotice p (some code) = none := by
  refine List.find?_eq_none.2 fun y listed => ?_
  by_cases named : y.1 = code
  · simp [codedNotices_distinct listed h named, absent]
  · simp [named]

/-- An event notice is shown with its own count and details (R160, R162). -/
theorem State.noticeReply_event {note : EventNote} (h : (s.port p).events.get n = some note) :
    s.noticeReply p (some (code, n)) = ⟨code, note.count, note.a, note.b, s.pendingSet p, (s.port p).mask⟩ := by
  simp only [State.noticeReply, h]

/-- A level notice is shown with count 1 and the details of the moment (R160, R162). -/
theorem State.noticeReply_level (h : (s.port p).events.get n = none) : s.noticeReply p (some (code, n)) =
    ⟨code, 1, .num (s.levelDetail p n).1, .num (s.levelDetail p n).2, s.pendingSet p, (s.port p).mask⟩ := by
  simp only [State.noticeReply, h]

theorem handleReadNotice_shown {payload : List Byte} {name : Option Nat} (hn : noticeName p payload = some name)
    (selected : s.selectNotice p name = some (code, n)) : handleReadNotice p payload s =
      (s.updPort p fun x => { x with events := x.events.set n none }, .ok, .notice (s.noticeReply p (some (code, n)))) := by
  simp only [handleReadNotice, hn, selected]
  rfl

theorem handleReadNotice_nothing {payload : List Byte} {name : Option Nat} (hn : noticeName p payload = some name)
    (selected : s.selectNotice p name = none) : handleReadNotice p payload s =
      (s, .ok, .notice (s.noticeReply p none)) := by
  simp only [handleReadNotice, hn, selected]
  rfl

theorem handleReadNotice_refused {payload : List Byte} (hn : noticeName p payload = none) :
    handleReadNotice p payload s = (s, .badRequest, .empty) := by
  simp only [handleReadNotice, hn]
  rfl

/-- READ NOTICE that has a notice to show (R162). -/
theorem exec_readNotice_shown (hr : s.Ready p) (tag : Byte) {payload : List Byte} {name : Option Nat}
    (hn : noticeName p payload = some name) (selected : (s.arrive p).selectNotice p name = some (code, n)) :
    let a := s.arrive p
    ∃ r : NoticeReply, r.code = code ∧ r.pendingSet = a.pendingSet p ∧ r.mask = (a.port p).mask ∧
      (∀ note, (a.port p).events.get n = some note → r.count = note.count ∧ r.a = note.a ∧ r.b = note.b) ∧
      ((a.port p).events.get n = none → r.count = 1 ∧
        r.a = .num (a.levelDetail p n).1 ∧ r.b = .num (a.levelDetail p n).2) ∧
      exec (.readNotice p tag payload) s =
        .next ((a.updPort p fun x => { x with events := x.events.set n none }).respond p tag 0x02 .ok (.notice r)) := by
  intro a
  have answered := next_takeRequest_any s (tag := tag) (code := 0x02) hr (handleReadNotice_shown hn selected)
  cases h : (a.port p).events.get n with
  | none =>
    rw [State.noticeReply_level h] at answered
    exact ⟨_, rfl, rfl, rfl, nofun, fun _ => ⟨rfl, rfl, rfl⟩, answered⟩
  | some note =>
    rw [State.noticeReply_event h] at answered
    refine ⟨_, rfl, rfl, rfl, fun other e => ?_, nofun, answered⟩
    cases e
    exact ⟨rfl, rfl, rfl⟩

/-! ### When a notice is pending (R160) -/

/-- A level notice is pending exactly while its condition holds. -/
theorem State.isPending_level (level : ∀ x : EventBox, x.get n = none) : s.isPending p n = s.levelHolds p n := by
  simp [State.isPending, level]

/-- An event notice is pending exactly while a raise of it stands. -/
theorem State.isPending_event (event : s.levelHolds p n = false) :
    s.isPending p n = ((s.port p).events.get n).isSome := by
  simp [State.isPending, event]

theorem State.isPresent_eq_false_iff (s : State) (q : Port) :
    s.isPresent q = false ↔ (s.port q).presence = .lapsed := by
  cases h : (s.port q).presence <;> simp [State.isPresent, h]

theorem State.oldestOwed_eq (s : State) (q : Port) : s.oldestOwed q = ((s.owed q).head?.map (·.number)).getD 0 := by
  unfold State.oldestOwed
  cases s.owed q <;> rfl

theorem not_isEmpty_iff {α : Type} (l : List α) : (!l.isEmpty) = true ↔ l ≠ [] := by
  simp

/-! ### The attention line and the pending set (R161, R162) -/

theorem State.attentionLow_iff (s : State) (p : Port) : s.attentionLow p = true ↔ s.held = none ∧
    ∃ code n, (code, n) ∈ codedNotices p ∧ s.isPending p n = true ∧ maskEnables (s.port p).mask code = true := by
  simp [State.attentionLow, State.isShown]

theorem codeBit_getLsbD (c : Nat) {i : Nat} (h : i < 16) : (codeBit c).getLsbD i = decide (c - 1 = i) := by
  rw [codeBit, BitVec.getLsbD_ofNat, Nat.testBit_two_pow, decide_eq_true h, Bool.true_and]

/-- The bits of a set of codes. -/
theorem foldl_codeBit_getLsbD (l : List (Nat × Notice)) (m : Half) {i : Nat} (h : i < 16) :
    (l.foldl (fun m x => m ||| codeBit x.1) m).getLsbD i = (m.getLsbD i || l.any fun x => decide (x.1 - 1 = i)) := by
  induction l generalizing m with
  | nil => simp
  | cons x l ih =>
    rw [List.foldl_cons, ih, BitVec.getLsbD_or, codeBit_getLsbD _ h, List.any_cons, Bool.or_assoc]

theorem State.pendingSet_iff (s : State) (p : Port) (first : 1 ≤ code) (last : code ≤ 16) :
    maskEnables (s.pendingSet p) code = true ↔ ∃ n, (code, n) ∈ codedNotices p ∧ s.isPending p n = true := by
  have empty : (0 : Half).getLsbD (code - 1) = false := BitVec.getLsbD_zero
  rw [maskEnables, State.pendingSet, foldl_codeBit_getLsbD _ _ (by omega), empty, Bool.false_or]
  simp only [List.any_eq_true, List.mem_filter, decide_eq_true_iff]
  constructor
  · rintro ⟨⟨c, n⟩, ⟨listed, pending⟩, bit⟩
    have same : c = code := by
      have range := codedNotices_range listed
      dsimp only at range bit
      omega
    exact ⟨n, same ▸ listed, pending⟩
  · rintro ⟨n, listed, pending⟩
    exact ⟨_, ⟨listed, pending⟩, rfl⟩

/-- Settles O7: the notice selected for each payload, the codes, and each level notice with its condition and details. -/
theorem readNoticeSelects : Obligations.ReadNoticeSelects := by
  refine ⟨fun p tag s hr => ⟨fun code n payload listed pending named => ?_, fun payload nothing => ?_,
    fun payload other => next_takeRequest_any s hr (handleReadNotice_refused (noticeName_of_other other))⟩,
    rfl, rfl, rfl, fun s => ?_⟩
  · rcases named with ⟨rfl, enabled, lowest⟩ | rfl
    · exact exec_readNotice_shown hr tag rfl (State.selectNotice_lowest listed pending enabled lowest)
    · exact exec_readNotice_shown hr tag (noticeName_code listed) (State.selectNotice_named listed pending)
  · rcases nothing with ⟨rfl, disabled⟩ | ⟨code, n, listed, rfl, absent⟩
    · exact ⟨_, _, next_takeRequest_any s hr (handleReadNotice_nothing rfl (State.selectNotice_nothing disabled))⟩
    · exact ⟨_, _, next_takeRequest_any s hr
        (handleReadNotice_nothing (noticeName_code listed) (State.selectNotice_absent listed absent))⟩
  · intro known fallback overdue owed level
    have pending {p : Port} {n : Notice} (never : ∀ x : EventBox, x.get n = none) {condition : Prop} {x y : Nat}
        (holds : s.levelHolds p n = true ↔ condition) (detail : s.levelDetail p n = (x, y)) : level p n condition x y :=
      ⟨by rw [State.isPending_level never, holds], fun _ => detail⟩
    refine ⟨pending (fun _ => rfl) s.overcommitted_iff rfl, pending (fun _ => rfl) ?_ rfl,
      fun p => pending (fun _ => rfl) (not_isEmpty_iff overdue) rfl, fun tables => ?_,
      pending (fun _ => rfl) decide_eq_true_iff rfl,
      fun p => pending (fun _ => rfl) (not_isEmpty_iff (owed p)) (congrArg _ (s.oldestOwed_eq p)),
      pending (fun _ => rfl) (not_isEmpty_iff s.bt.slotWait) rfl, fun p n listed => State.isPending_event ?_,
      fun p => ⟨s.attentionLow_iff p, fun code first last => s.pendingSet_iff p first last⟩⟩
    · simp [State.levelHolds, State.isRun_iff, State.isPresent_eq_false_iff]
    · exact tables.inServiceBays_ascending.filter _
    · simp only [List.mem_cons, List.not_mem_nil, or_false] at listed
      rcases listed with rfl | rfl | rfl | rfl | rfl | rfl | rfl | rfl <;> rfl

end Sys2Proof.Machine
end

section
/-! The frames of requests and responses (R154, R156, R167): the request that a frame spells, and the places of the fields. -/

namespace Sys2Proof.Machine

/-! ### Checked frames (R154) -/

/-- With its check byte a frame's bytes sum to 0. -/
theorem byteSum_checked (body : List Byte) : byteSum (body ++ [checkByte body]) = 0 := by
  rw [byteSum, List.foldl_append]
  exact BitVec.add_right_neg (byteSum body)

theorem sum_checked (body : List Byte) : ((body ++ [checkByte body]).map (·.toNat)).sum % 256 = 0 :=
  (byteSum_eq_zero_iff _).1 (byteSum_checked body)

theorem requestFrame_length (tag code : Byte) (payload : List Byte) :
    (requestFrame tag code payload).length = 4 + payload.length := by
  simp only [requestFrame, List.length_append, List.length_cons, List.length_nil]
  omega

/-- A request's frame with good stop bits is read back as the command that its payload spells. -/
theorem frameCommand_requestFrame (p : Port) (tag code : Byte) {payload : List Byte} (h : payload.length ≤ 240) :
    frameCommand p false (requestFrame tag code payload) = requestOf p tag code payload := by
  have len : (BitVec.ofNat 8 payload.length).toNat = payload.length := by
    rw [BitVec.toNat_ofNat, Nat.mod_eq_of_lt (by omega)]
  have length := requestFrame_length tag code payload
  have good : ¬ badFrame (requestFrame tag code payload) = true := by
    rw [badFrame_iff]
    rintro (short | ⟨b, hb, bad⟩)
    · omega
    · obtain rfl : BitVec.ofNat 8 payload.length = b := Option.some.inj hb
      rw [len, length] at bad
      rcases bad with long | other | sum
      · omega
      · exact other rfl
      · exact sum (sum_checked _)
  have taken : ¬ (false || decide (Config.frameBytes < (requestFrame tag code payload).length) ||
      badFrame (requestFrame tag code payload)) = true := by
    have fits : ¬ Config.frameBytes < 4 + payload.length := Nat.not_lt.2 (by unfold Config.frameBytes; omega)
    simp [length, good, fits]
  unfold frameCommand
  rw [if_neg taken]
  refine congrArg (requestOf p tag code) ?_
  rw [len]
  exact List.take_left

/-- A code of the catalogue spells its request. -/
theorem requestOf_catalogue (p : Port) (tag : Byte) {code : Byte} (payload : List Byte) (h : code ∈ catalogueCodes) :
    requestHead (requestOf p tag code payload) = some (p, tag) ∧
      catalogueCode (requestOf p tag code payload) = some code := by
  unfold catalogueCodes at h
  fin_cases h <;> exact ⟨rfl, rfl⟩

/-- Any other code spells no request (R156). -/
theorem requestOf_unknown (p : Port) (tag : Byte) {code : Byte} (payload : List Byte) (h : code ∉ catalogueCodes) :
    requestOf p tag code payload = .unknownCommand p tag code := by
  simp only [catalogueCodes, List.mem_cons, List.not_mem_nil, not_or] at h
  simp only [requestOf, h, if_false]

/-! ### Fields of a layout, most significant byte first (R167) -/

/-- The number that bytes spell, most significant byte first. -/
def valueOf (l : List Byte) : Nat :=
  l.foldl (fun v b => v * 256 + b.toNat) 0

/-- The field of some bytes at a place. -/
def fieldAt (l : List Byte) (place size : Nat) : Nat :=
  valueOf ((l.drop place).take size)

/-- The bit of a byte at a place. -/
def bitAt (l : List Byte) (place i : Nat) : Bool :=
  ((l[place]?).getD 0).getLsbD i

theorem getElem?_eq_drop (l : List Byte) (place : Nat) : l[place]? = (l.drop place)[0]? := by
  simp

theorem valueOf_byte (n : Nat) : valueOf [BitVec.ofNat 8 n] = n % 256 := by
  simp [valueOf]

theorem valueOf_bytes16 (n : Nat) : valueOf (bytes16 n) = n % 65536 := by
  simp only [valueOf, bytes16, List.foldl_cons, List.foldl_nil, BitVec.toNat_ofNat]
  omega

theorem valueOf_bytes32 (n : Nat) : valueOf (bytes32 n) = n % 4294967296 := by
  simp only [valueOf, bytes32, List.foldl_cons, List.foldl_nil, BitVec.toNat_ofNat]
  omega

theorem valueOf_bytes40 (n : Nat) : valueOf (bytes40 n) = n % 1099511627776 := by
  simp only [valueOf, bytes40, bytes32, List.foldl_cons, List.foldl_nil, BitVec.toNat_ofNat]
  omega

theorem bitsOf_testBit (l : List Bool) (i : Nat) : (bitsOf l).testBit i = l.getD i false := by
  induction l generalizing i with
  | nil => simp [bitsOf]
  | cons b l ih =>
    cases i with
    | zero => cases b <;> simp [bitsOf, Nat.testBit_zero]
    | succ i =>
      have half : (b.toNat + 2 * bitsOf l) / 2 = bitsOf l := by
        have small := b.toNat_lt
        omega
      rw [bitsOf, Nat.testBit_succ, half, ih, List.getD_cons_succ]

/-- The named bits of a byte stand in their order. -/
theorem flagByte_getLsbD (l : List Bool) {i : Nat} (h : i < 8) : (flagByte l).getLsbD i = l.getD i false := by
  rw [flagByte, BitVec.getLsbD_ofNat, decide_eq_true h, Bool.true_and, bitsOf_testBit]

theorem valueOf_flagByte (b : Bool) : valueOf [flagByte [b]] = if b then 1 else 0 := by
  cases b <;> rfl

/-- The spare bits leave the named ones as they are (log 27). -/
theorem withSpare_getLsbD (place : Nat) {mask : Byte} (named : Byte) {i : Nat} (h : mask.getLsbD i = false) :
    (withSpare place mask named).getLsbD i = named.getLsbD i := by
  rw [withSpare, BitVec.getLsbD_or, BitVec.getLsbD_and, h, Bool.and_false, Bool.or_false]

/-! ### Lists of entries of one width -/

section Entries

variable {α : Type} {f : α → List Byte} {w : Nat}

theorem flatMap_length (width : ∀ x, (f x).length = w) (l : List α) : (l.flatMap f).length = w * l.length := by
  induction l with
  | nil => simp
  | cons x l ih =>
    rw [List.flatMap_cons, List.length_append, width, ih, List.length_cons]
    ring

/-- Behind the entries before it stand an entry's own bytes. -/
theorem flatMap_drop (width : ∀ x, (f x).length = w) {l : List α} {i : Nat} {x : α} (h : l[i]? = some x) :
    ∃ rest, (l.flatMap f).drop (w * i) = f x ++ rest := by
  induction l generalizing i with
  | nil => exact nomatch h
  | cons y l ih =>
    cases i with
    | zero =>
      cases h
      exact ⟨_, rfl⟩
    | succ i =>
      obtain ⟨rest, e⟩ := ih (i := i) (by simpa using h)
      refine ⟨rest, ?_⟩
      rw [List.flatMap_cons, Nat.mul_succ, Nat.add_comm, ← List.drop_drop, ← e]
      exact congrArg _ (List.drop_left' (width y))

/-- Behind a head of `n` bytes, the fields and bits of an entry stand at their places within the entry. -/
theorem entry_at (width : ∀ x, (f x).length = w) {head : List Byte} {n : Nat} (hn : head.length = n) {l : List α} {i : Nat}
    {x : α} (h : l[i]? = some x) : ∃ rest,
      (∀ place offset size, place = n + w * i + offset →
        fieldAt (head ++ l.flatMap f) place size = fieldAt (f x ++ rest) offset size) ∧
      ∀ place offset b, place = n + w * i + offset →
        bitAt (head ++ l.flatMap f) place b = bitAt (f x ++ rest) offset b := by
  obtain ⟨rest, e⟩ := flatMap_drop width h
  have behind (offset : Nat) : (head ++ l.flatMap f).drop (n + w * i + offset) = (f x ++ rest).drop offset := by
    rw [← e, Nat.add_assoc, ← List.drop_drop, List.drop_left' hn, List.drop_drop]
  refine ⟨rest, fun place offset size hp => ?_, fun place offset b hp => ?_⟩
  · rw [fieldAt, hp, behind, fieldAt]
  · rw [bitAt, hp, getElem?_eq_drop, behind, ← getElem?_eq_drop, bitAt]

end Entries

/-! ### Layouts of consecutive fields -/

section Chunks

variable {chunks : List (List Byte)} {k place : Nat}

/-- Behind the fields before it stands a field's own bytes. -/
theorem flatten_drop {c : List Byte} (tail : List Byte) (h : chunks[k]? = some c)
    (hp : place = ((chunks.map List.length).take k).sum) :
    ∃ rest, (chunks.flatten ++ tail).drop place = c ++ rest := by
  obtain ⟨hk, rfl⟩ := List.getElem?_eq_some_iff.1 h
  have split : chunks.flatten = (chunks.take k).flatten ++ (chunks[k] ++ (chunks.drop (k + 1)).flatten) := by
    rw [← List.flatten_cons, ← List.drop_eq_getElem_cons hk, ← List.flatten_append, List.take_append_drop]
  rw [split, List.append_assoc, List.append_assoc, List.drop_left' (by rw [hp, List.length_flatten, List.map_take])]
  exact ⟨_, rfl⟩

theorem fieldAt_chunk {c : List Byte} {size : Nat} (tail : List Byte) (h : chunks[k]? = some c)
    (hp : place = ((chunks.map List.length).take k).sum) (hs : c.length = size) :
    fieldAt (chunks.flatten ++ tail) place size = valueOf c := by
  obtain ⟨rest, e⟩ := flatten_drop tail h hp
  rw [fieldAt, e, List.take_left' hs]

theorem bitAt_chunk {b : Byte} (tail : List Byte) (h : chunks[k]? = some [b])
    (hp : place = ((chunks.map List.length).take k).sum) (i : Nat) :
    bitAt (chunks.flatten ++ tail) place i = b.getLsbD i := by
  obtain ⟨rest, e⟩ := flatten_drop tail h hp
  rw [bitAt, getElem?_eq_drop, e]
  rfl

end Chunks

end Sys2Proof.Machine
end

section
/-! The layouts of responses, payloads and records (R156, R167), and the round trip of the frames. -/

namespace Sys2Proof.Machine

/-! ### Lengths of the payloads -/

theorem Detail.bytes_eq (d : Detail) : ∃ n, d.bytes = bytes32 n := by
  cases d <;> exact ⟨_, rfl⟩

theorem Detail.bytes_length (d : Detail) : d.bytes.length = 4 := by
  obtain ⟨n, h⟩ := d.bytes_eq
  rw [h]
  rfl

theorem NoticeReply.bytes_length (r : NoticeReply) : r.bytes.length = 14 := by
  simp [NoticeReply.bytes, Detail.bytes_length, bytes16]

theorem ReportReply.bytes_length (x : ReportReply) : x.bytes.length = 4 := rfl

theorem GrantReply.bytes_length (x : GrantReply) : x.bytes.length = 7 := rfl

theorem PricedEntry.bytes_length (x : PricedEntry) : x.bytes.length = 12 := rfl

theorem reports_length (l : List ReportReply) : (Reply.reports l).bytes.length = 1 + 4 * l.length := by
  rw [Reply.bytes, List.length_cons, flatMap_length ReportReply.bytes_length]
  omega

theorem grants_length (eg ea : Nat) (l : List GrantReply) : (Reply.grants eg ea l).bytes.length = 9 + 7 * l.length := by
  rw [Reply.bytes, List.length_append, List.length_cons, flatMap_length GrantReply.bytes_length]
  simp only [List.length_append, bytes32, List.length_cons, List.length_nil]
  omega

/-- A receipt's fields before its band entries, in the order of R167. -/
def Receipt.fields (r : Receipt) : List (List Byte) :=
  [bytes32 r.number, bytes16 r.session, [BitVec.ofNat 8 r.bay], [BitVec.ofNat 8 ((r.cause.map CloseCause.code).getD 0)],
    bytes32 r.start.mono, bytes16 r.start.dayMinute, bytes32 (r.stop.getD r.start).mono,
    bytes16 (r.stop.getD r.start).dayMinute, bytes32 r.total, bytes32 r.free, bytes32 (r.voucher.getD 0),
    bytes32 (if r.voucher.isSome then r.creditGranted else 0), [r.flagBits],
    [withSpare 1 0xFC (flagByte [r.owedNetwork, r.owedTill])], bytes40 r.charge, [BitVec.ofNat 8 r.entries.length]]

theorem Receipt.bytes_eq (r : Receipt) : r.bytes = r.fields.flatten ++ r.entries.flatMap PricedEntry.bytes := by
  simp [Receipt.bytes, Receipt.fields, Stamp.bytes]

/-- The widths of those fields (R167). -/
def Receipt.widths : List Nat :=
  [4, 2, 1, 1, 4, 2, 4, 2, 4, 4, 4, 4, 1, 1, 5, 1]

theorem Receipt.fields_widths (r : Receipt) : r.fields.map List.length = Receipt.widths := rfl

theorem Receipt.fields_length (r : Receipt) : r.fields.flatten.length = 44 := by
  rw [List.length_flatten, r.fields_widths]
  rfl

/-- A field of a receipt stands behind the widths of the fields before it. -/
theorem Receipt.fieldAt_bytes (r : Receipt) (k place size : Nat) {c : List Byte} (h : r.fields[k]? = some c)
    (hp : place = (Receipt.widths.take k).sum) (hs : c.length = size) : fieldAt r.bytes place size = valueOf c :=
  r.bytes_eq ▸ fieldAt_chunk _ h (r.fields_widths ▸ hp) hs

theorem Receipt.bitAt_bytes (r : Receipt) (k place i : Nat) {b : Byte} (h : r.fields[k]? = some [b])
    (hp : place = (Receipt.widths.take k).sum) : bitAt r.bytes place i = b.getLsbD i :=
  r.bytes_eq ▸ bitAt_chunk _ h (r.fields_widths ▸ hp) i

theorem Receipt.bytes_length (r : Receipt) : r.bytes.length = 44 + 12 * r.entries.length := by
  rw [r.bytes_eq, List.length_append, r.fields_length, flatMap_length PricedEntry.bytes_length]

theorem freePayload_length (x : Reply) : (freePayload x).length ≤ 240 :=
  List.length_take_le _ _

/-- A payload length is at most 240 (R154). -/
theorem Reply.bytes_length_le (x : Reply) (reports : ∀ l, x = .reports l → l.length ≤ 8)
    (grants : ∀ eg ea l, x = .grants eg ea l → l.length ≤ 32) (receipt : ∀ n r, x = .receipt n r → r.entries.length ≤ 8) :
    x.bytes.length ≤ 240 := by
  cases x with
  | empty => exact Nat.zero_le _
  | ping r => exact (by decide : 15 ≤ 240)
  | notice r => exact r.bytes_length.trans_le (by decide)
  | mask m => exact (by decide : 2 ≤ 240)
  | reports l =>
    have few := reports l rfl
    rw [reports_length]
    omega
  | grants eg ea l =>
    have few := grants eg ea l rfl
    rw [grants_length]
    omega
  | receipt n r =>
    have few := receipt n r rfl
    rw [Reply.bytes, List.length_cons, r.bytes_length]
    omega
  | written | config | commitDetail | site | windows | channels | session | epochs | closed | service | claimed | bay
  | posted | withdrawn | voucher | oldest => exact freePayload_length _

/-! ### Bytes that hold several fields -/

theorem getLsbD_ofNat_byte (n : Nat) {i : Nat} (h : i < 8) : (BitVec.ofNat 8 n).getLsbD i = decide (n / 2 ^ i % 2 = 1) := by
  rw [BitVec.getLsbD_ofNat, decide_eq_true h, Bool.true_and, Nat.testBit_eq_decide_div_mod_eq]

/-- The head byte of an entry of READ GRANTS: the bay and its two marks (R167). -/
theorem grantHead {bay : Nat} (deferred overdue : Bool) (h : bay < 64) :
    let b : Byte := BitVec.ofNat 8 (bay + 64 * deferred.toNat + 128 * overdue.toNat)
    valueOf [b] % 64 = bay ∧ b.getLsbD 6 = deferred ∧ b.getLsbD 7 = overdue := by
  have hd := deferred.toNat_lt
  have ho := overdue.toNat_lt
  refine ⟨?_, ?_, ?_⟩
  · rw [valueOf_byte]
    omega
  · have bit : (bay + 64 * deferred.toNat + 128 * overdue.toNat) / 2 ^ 6 % 2 = deferred.toNat := by omega
    rw [getLsbD_ofNat_byte _ (by decide), bit]
    simp only [Bool.toNat_eq_one, Bool.decide_eq_true]
  · have bit : (bay + 64 * deferred.toNat + 128 * overdue.toNat) / 2 ^ 7 % 2 = overdue.toNat := by omega
    rw [getLsbD_ofNat_byte _ (by decide), bit]
    simp only [Bool.toNat_eq_one, Bool.decide_eq_true]

/-- The low four bits of a byte, as a number. -/
theorem valueOf_mod_16 (b : Byte) : valueOf [b] % 16 = (b.setWidth 4).toNat := by
  simp [valueOf]

/-- The first byte of a receipt's band entry: the index and the peak mark beside the spare bits (R167, log 27). -/
theorem bandHead {index : Nat} (peak : Bool) (h : index < 16) :
    let b := withSpare 2 0x70 (BitVec.ofNat 8 (index + 128 * peak.toNat))
    valueOf [b] % 16 = index ∧ b.getLsbD 7 = peak := by
  have hp := peak.toNat_lt
  refine ⟨?_, ?_⟩
  · have spare : (0x70 : Byte).setWidth 4 = 0#4 := by decide
    rw [valueOf_mod_16, withSpare, BitVec.setWidth_or, BitVec.setWidth_and, spare, BitVec.and_zero, BitVec.or_zero,
      ← valueOf_mod_16, valueOf_byte]
    omega
  · have bit : (index + 128 * peak.toNat) / 2 ^ 7 % 2 = peak.toNat := by omega
    rw [withSpare_getLsbD _ _ (by decide), getLsbD_ofNat_byte _ (by decide), bit]
    simp only [Bool.toNat_eq_one, Bool.decide_eq_true]

/-- The value of a status is its place in the list of R156. -/
theorem valueOf_status (x : Status) : valueOf [BitVec.ofNat 8 x.code] = ([.ok, .adjusted, .badRequest, .notPermitted,
    .badState, .unknownBay, .unknownVoucher, .duplicate, .listFull, .belowMinimum, .notClaimable, .outOfOrder, .outOfRange,
    .empty] : List Status).idxOf x := by
  cases x <;> rfl

theorem valueOf_bayState (x : BayState) : valueOf [BitVec.ofNat 8 x.code] =
    ([.vacant, .waiting, .active, .done, .fallback, .outOfService] : List BayState).idxOf x := by
  cases x <;> rfl

theorem valueOf_closeCause (c : CloseCause) : valueOf [BitVec.ofNat 8 c.code] =
    1 + ([.unplugged, .endSession, .outOfService, .abandoned] : List CloseCause).idxOf c := by
  cases c <;> rfl

theorem valueOf_half (m : Half) : valueOf (bytes16 m.toNat) = m.toNat :=
  (valueOf_bytes16 _).trans (Nat.mod_eq_of_lt m.isLt)

/-! ### The layouts -/

/-- The places of a notice's fields, with both details four bytes (R162, R167). -/
theorem NoticeReply.bytes_fields (r : NoticeReply) {a b : Nat} (ha : r.a.bytes = bytes32 a) (hb : r.b.bytes = bytes32 b) :
    fieldAt r.bytes 0 1 = r.code % 256 ∧ fieldAt r.bytes 1 1 = r.count % 256 ∧ fieldAt r.bytes 2 4 = a % 4294967296 ∧
      fieldAt r.bytes 6 4 = b % 4294967296 ∧ fieldAt r.bytes 10 2 = r.pendingSet.toNat ∧
      fieldAt r.bytes 12 2 = r.mask.toNat := by
  rw [NoticeReply.bytes, ha, hb]
  exact ⟨valueOf_byte _, valueOf_byte _, valueOf_bytes32 a, valueOf_bytes32 b, valueOf_half _, valueOf_half _⟩

/-- The places of the fields of an entry of BAY REPORTS' response (R167). -/
theorem reports_entry {entries : List ReportReply} {i : Nat} {x : ReportReply} (h : entries[i]? = some x) :
    let l := (Reply.reports entries).bytes
    fieldAt l (1 + 4 * i) 1 = x.bay % 256 ∧ fieldAt l (2 + 4 * i) 1 =
        ([.vacant, .waiting, .active, .done, .fallback, .outOfService] : List BayState).idxOf x.state ∧
      fieldAt l (3 + 4 * i) 2 = x.session.getD 0 % 65536 := by
  have head : [BitVec.ofNat 8 entries.length].length = 1 := rfl
  obtain ⟨rest, at_field, -⟩ := entry_at ReportReply.bytes_length head h
  exact ⟨(at_field _ 0 1 rfl).trans (valueOf_byte _), (at_field _ 1 1 (by omega)).trans (valueOf_bayState _),
    (at_field _ 2 2 (by omega)).trans (valueOf_bytes16 _)⟩

/-- The places of the fields of an entry of READ GRANTS (R167). -/
theorem grants_entry (eg ea : Nat) {entries : List GrantReply} {i : Nat} {x : GrantReply} (h : entries[i]? = some x)
    (few : x.bay < 64) :
    let l := (Reply.grants eg ea entries).bytes
    fieldAt l (9 + 7 * i) 1 % 64 = x.bay ∧ bitAt l (9 + 7 * i) 6 = x.deferred ∧ bitAt l (9 + 7 * i) 7 = x.overdue ∧
      fieldAt l (10 + 7 * i) 2 = x.g % 65536 ∧ fieldAt l (12 + 7 * i) 2 = x.a % 65536 ∧
      fieldAt l (14 + 7 * i) 2 = x.lag % 65536 := by
  have head : (bytes32 eg ++ bytes32 ea ++ [BitVec.ofNat 8 entries.length]).length = 9 := rfl
  obtain ⟨rest, at_field, at_bit⟩ := entry_at GrantReply.bytes_length head h
  obtain ⟨bay, deferred, overdue⟩ := grantHead x.deferred x.overdue few
  exact ⟨(congrArg (· % 64) (at_field _ 0 1 rfl)).trans bay, (at_bit _ 0 6 rfl).trans deferred,
    (at_bit _ 0 7 rfl).trans overdue, (at_field _ 1 2 (by omega)).trans (valueOf_bytes16 _),
    (at_field _ 3 2 (by omega)).trans (valueOf_bytes16 _), (at_field _ 5 2 (by omega)).trans (valueOf_bytes16 _)⟩

/-- The places of the fields of a receipt's band entry (R167). -/
theorem Receipt.entry (r : Receipt) {i : Nat} {e : PricedEntry} (h : r.entries[i]? = some e) (few : e.index < 16) :
    fieldAt r.bytes (44 + 12 * i) 1 % 16 = e.index ∧ bitAt r.bytes (44 + 12 * i) 7 = e.peak ∧
      fieldAt r.bytes (45 + 12 * i) 2 = e.price % 65536 ∧ fieldAt r.bytes (47 + 12 * i) 4 = e.wh % 4294967296 ∧
      fieldAt r.bytes (51 + 12 * i) 5 = e.cents % 1099511627776 := by
  obtain ⟨rest, at_field, at_bit⟩ := entry_at PricedEntry.bytes_length r.fields_length h
  rw [← r.bytes_eq] at at_field at_bit
  obtain ⟨index, peak⟩ := bandHead e.peak few
  exact ⟨(congrArg (· % 16) (at_field _ 0 1 rfl)).trans index, (at_bit _ 0 7 rfl).trans peak,
    (at_field _ 1 2 (by omega)).trans (valueOf_bytes16 _), (at_field _ 3 4 (by omega)).trans (valueOf_bytes32 _),
    (at_field _ 7 5 (by omega)).trans (valueOf_bytes40 _)⟩

/-- The flags of a receipt record stand in byte 36 (R167). -/
theorem Receipt.bitAt_flags (r : Receipt) {i : Nat} (h : i < 8) : bitAt r.bytes 36 i = [r.flags.meterBack, r.flags.clamped,
    r.flags.incomplete, r.flags.tariffMerged, r.flags.clockUnset, r.flags.withdrawn, r.tillReleased,
    r.voucher.isSome].getD i false :=
  (r.bitAt_bytes 12 36 i rfl rfl).trans (flagByte_getLsbD _ h)

/-- The owed set of a receipt record stands in byte 37, beside spare bits (R167, log 27). -/
theorem Receipt.bitAt_owed (r : Receipt) {i : Nat} (h : i < 2) :
    bitAt r.bytes 37 i = [r.owedNetwork, r.owedTill].getD i false := by
  have named : (0xFC : Byte).getLsbD i = false := by interval_cases i <;> rfl
  exact (r.bitAt_bytes 13 37 i rfl rfl).trans ((withSpare_getLsbD 1 _ named).trans (flagByte_getLsbD _ (by omega)))

/-- The presence and lapse bits of PING stand in byte 6, beside spare bits (R165, R167, log 27). -/
theorem PingReply.bitAt_flags (r : PingReply) {i : Nat} (h : i < 8) (named : (0x88 : Byte).getLsbD i = false) :
    bitAt r.bytes 6 i = [r.presentN, r.presentT, r.presentE, false, r.lapsedN, r.lapsedT, r.lapsedE].getD i false :=
  (withSpare_getLsbD 0 _ named).trans (flagByte_getLsbD _ h)

/-- Settles O54: the frames, then each layout with its fields read off in their places. -/
theorem requestFramesRoundTrip : Obligations.RequestFramesRoundTrip := by
  refine ⟨fun p tag code payload h => ⟨requestFrame_length _ _ _, sum_checked _, frameCommand_requestFrame p tag code h,
    if_pos rfl, requestOf_catalogue p tag payload, requestOf_unknown p tag payload, fun r => sum_checked r.body⟩, ?_⟩
  intro field bit
  have fields : field = fieldAt := rfl
  have bits : bit = bitAt := rfl
  clear_value field bit
  subst fields bits
  refine ⟨fun r => ⟨?_, rfl, rfl, valueOf_status r.status, valueOf_byte _, List.take_left⟩, Reply.bytes_length_le,
    fun m => ⟨rfl, valueOf_half m⟩, fun r => ?_, fun r => ?_,
    fun entries => ⟨reports_length entries, valueOf_byte _, fun _ _ => reports_entry⟩,
    fun eg ea entries => ⟨grants_length eg ea entries, valueOf_bytes32 eg, valueOf_bytes32 ea, valueOf_byte _,
      fun _ _ => grants_entry eg ea⟩,
    fun owed r => ⟨valueOf_byte owed, rfl⟩, fun r => ?_⟩
  · rw [Response.frame, List.length_append]
    simp only [Response.body, List.length_cons, List.length_nil]
    omega
  · have site : valueOf [flagByte [decide (r.site = .run)]] = if r.site = .run then 1 else 0 := by
      cases r.site <;> rfl
    exact ⟨rfl, rfl, rfl, valueOf_byte _, valueOf_flagByte _, site, r.bitAt_flags (i := 0) (by decide) (by decide),
      r.bitAt_flags (i := 1) (by decide) (by decide), r.bitAt_flags (i := 2) (by decide) (by decide),
      r.bitAt_flags (i := 4) (by decide) (by decide), r.bitAt_flags (i := 5) (by decide) (by decide),
      r.bitAt_flags (i := 6) (by decide) (by decide), valueOf_bytes16 _, valueOf_bytes16 _, valueOf_bytes16 _,
      valueOf_bytes16 _⟩
  · obtain ⟨a, ha⟩ := r.a.bytes_eq
    obtain ⟨b, hb⟩ := r.b.bytes_eq
    obtain ⟨code, count, -, -, pending, mask⟩ := r.bytes_fields ha hb
    refine ⟨r.bytes_length, code, count, fun n h => ?_, fun n h => ?_, pending, mask⟩
    · obtain ⟨-, -, detail, -⟩ := r.bytes_fields (congrArg Detail.bytes h) hb
      exact detail
    · obtain ⟨-, -, -, detail, -⟩ := r.bytes_fields ha (congrArg Detail.bytes h)
      exact detail
  · have stop {x : Stamp} (h : r.stop = some x) : r.stop.getD r.start = x := by rw [h]; rfl
    have credit : (if r.voucher.isSome then r.creditGranted else 0) % 4294967296 =
        if r.voucher = none then 0 else r.creditGranted % 4294967296 := by
      cases r.voucher <;> rfl
    refine ⟨r.bytes_length, (r.fieldAt_bytes 0 0 4 rfl rfl rfl).trans (valueOf_bytes32 _),
      (r.fieldAt_bytes 1 4 2 rfl rfl rfl).trans (valueOf_bytes16 _),
      (r.fieldAt_bytes 2 6 1 rfl rfl rfl).trans (valueOf_byte _), fun c h => ?_,
      (r.fieldAt_bytes 4 8 4 rfl rfl rfl).trans (valueOf_bytes32 _),
      (r.fieldAt_bytes 5 12 2 rfl rfl rfl).trans (valueOf_bytes16 _), fun x h => ⟨?_, ?_⟩,
      (r.fieldAt_bytes 8 20 4 rfl rfl rfl).trans (valueOf_bytes32 _),
      (r.fieldAt_bytes 9 24 4 rfl rfl rfl).trans (valueOf_bytes32 _),
      (r.fieldAt_bytes 10 28 4 rfl rfl rfl).trans (valueOf_bytes32 _),
      (r.fieldAt_bytes 11 32 4 rfl rfl rfl).trans ((valueOf_bytes32 _).trans credit), r.bitAt_flags (i := 0) (by decide),
      r.bitAt_flags (i := 1) (by decide), r.bitAt_flags (i := 2) (by decide), r.bitAt_flags (i := 3) (by decide),
      r.bitAt_flags (i := 4) (by decide), r.bitAt_flags (i := 5) (by decide), r.bitAt_flags (i := 6) (by decide),
      r.bitAt_flags (i := 7) (by decide), r.bitAt_owed (i := 0) (by decide), r.bitAt_owed (i := 1) (by decide),
      (r.fieldAt_bytes 14 38 5 rfl rfl rfl).trans (valueOf_bytes40 _),
      (r.fieldAt_bytes 15 43 1 rfl rfl rfl).trans (valueOf_byte _), fun _ _ => r.entry⟩
    · have code : (r.cause.map CloseCause.code).getD 0 = c.code := by rw [h]; rfl
      rw [← valueOf_closeCause c, ← code]
      exact r.fieldAt_bytes 3 7 1 rfl rfl rfl
    · exact ((r.fieldAt_bytes 6 14 4 rfl rfl rfl).trans (valueOf_bytes32 _)).trans (by rw [stop h])
    · exact ((r.fieldAt_bytes 7 18 2 rfl rfl rfl).trans (valueOf_bytes16 _)).trans (by rw [stop h])

end Sys2Proof.Machine
end

section
/-! The queue of commands (log 1): what a step takes from it. -/

namespace Sys2Proof.Machine

variable {s : State}

/-- On an empty queue the part idles. -/
theorem step_of_pending_nil (h : s.pending = []) : step s = .next s := by
  unfold step
  rw [h]

/-- The command at the front of the queue is taken, and those behind it wait. -/
theorem step_of_pending_cons {c : Instr} {rest : List Instr} (h : s.pending = c :: rest) :
    step s = exec c { s with pending := rest } := by
  unfold step
  rw [h]

/-- Settles O1: the two cases of the queue, a front command and none. -/
theorem stepTakesFront : Obligations.StepTakesFront := by
  refine ⟨fun c rest s => ?_, fun s h => step_of_pending_nil h⟩
  have front : State.pending { s with pending := c :: rest } = c :: rest := rfl
  exact step_of_pending_cons front

end Sys2Proof.Machine
end
